-- ==== Sys2Proof/Word.lean ====
section
/-! DEFINITION. The word types of the block: bytes, counters and operand words as bit vectors
(00_scope.md R8, R9). Every width is the one the spec states. -/

namespace Sys2Proof

/-- A byte, 0..255 (R8). -/
abbrev Byte := BitVec 8

/-- A 4-bit counter (10_state.md R34: `PCNT`, `CCNT`). -/
abbrev Nibble := BitVec 4

/-- A 16-bit value: a command word (30_encoding.md R90) or a DataID (R34). -/
abbrev Half := BitVec 16

/-- A 32-bit value: `OPA` and `RES` (30_encoding.md R95, R96). -/
abbrev Word := BitVec 32

end Sys2Proof
end

