-- ==== Sys2Proof/Config.lean ====
section
/-! DEFINITION. The parameters of the block that the spec leaves open (00_scope.md R6): what one
implementation fixes. A `Config` is carried in `State`, so that every statement over states is a
statement for every value of the parameters; no step changes it. The recommended values stand in
Machine/Params.lean. `N_INST` is the number of slots of a state. -/

namespace Sys2Proof

/-- The named parameters of R6, but `N_INST`. Polynomials are in normal (MSB-first) form without
the x^W term. -/
structure Config where
  /-- `POLY8`, the generator polynomial of profile 01. -/
  poly8 : BitVec 8
  /-- `POLY32`, the generator polynomial of profile 04. -/
  poly32 : BitVec 32
  /-- `POLY16`, the generator polynomial of profile 05. -/
  poly16 : BitVec 16
  /-- `CRC8_INIT`, the start value of the profile-01 CRC. -/
  crc8Init : BitVec 8
  /-- `MAX_FRAME_LEN`: `some m` is m bytes, `none` is "unbounded". -/
  maxFrameLen : Option Nat
  deriving DecidableEq, Repr

end Sys2Proof
end

