-- ==== Sys2Proof/Syntax.lean ====
section
/-! DEFINITION. The commands of the block: one constructor of `Instr` per row of
opcode_table.json (30_encoding.md R92: eight operations, each once per profile). `ARG8` is a field
where the format is `I` (R91, R94); INST, OPA, IN and OUT are no part of the command word (R90)
and stand in the command port of `State`. -/

namespace Sys2Proof

/-- The profile selector P (00_scope.md R7). -/
inductive Profile where
  | p01
  | p04
  | p05
  deriving DecidableEq, Repr

/-- The eight operations of R92. -/
inductive Operation where
  | construct
  | initTable
  | tableRead
  | crcStep
  | computeCrc
  | tryProtect
  | tryForward
  | check
  deriving DecidableEq, Repr

/-- The 24 commands (opcode_table.json). -/
inductive Instr where
  | constructP01
  | constructP04
  | constructP05
  | initTableP01
  | initTableP04
  | initTableP05
  | tableReadP01 (index : Byte)
  | tableReadP04 (index : Byte)
  | tableReadP05 (index : Byte)
  | crcStepP01 (data : Byte)
  | crcStepP04 (data : Byte)
  | crcStepP05 (data : Byte)
  | computeCrcP01 (control : Byte)
  | computeCrcP04 (control : Byte)
  | computeCrcP05 (control : Byte)
  | tryProtectP01
  | tryProtectP04
  | tryProtectP05
  | tryForwardP01
  | tryForwardP04
  | tryForwardP05
  | checkP01
  | checkP04
  | checkP05
  deriving DecidableEq, Repr

/-- The operation of a command. -/
def Instr.op : Instr → Operation
  | .constructP01 | .constructP04 | .constructP05 => .construct
  | .initTableP01 | .initTableP04 | .initTableP05 => .initTable
  | .tableReadP01 _ | .tableReadP04 _ | .tableReadP05 _ => .tableRead
  | .crcStepP01 _ | .crcStepP04 _ | .crcStepP05 _ => .crcStep
  | .computeCrcP01 _ | .computeCrcP04 _ | .computeCrcP05 _ => .computeCrc
  | .tryProtectP01 | .tryProtectP04 | .tryProtectP05 => .tryProtect
  | .tryForwardP01 | .tryForwardP04 | .tryForwardP05 => .tryForward
  | .checkP01 | .checkP04 | .checkP05 => .check

/-- The profile of a command. -/
def Instr.profile : Instr → Profile
  | .constructP01 | .initTableP01 | .tableReadP01 _ | .crcStepP01 _ => .p01
  | .computeCrcP01 _ | .tryProtectP01 | .tryForwardP01 | .checkP01 => .p01
  | .constructP04 | .initTableP04 | .tableReadP04 _ | .crcStepP04 _ => .p04
  | .computeCrcP04 _ | .tryProtectP04 | .tryForwardP04 | .checkP04 => .p04
  | .constructP05 | .initTableP05 | .tableReadP05 _ | .crcStepP05 _ => .p05
  | .computeCrcP05 _ | .tryProtectP05 | .tryForwardP05 | .checkP05 => .p05

/-- The `ARG8` field of a command: 0x00 where R94 reserves it. -/
def Instr.arg8 : Instr → Byte
  | .tableReadP01 a | .tableReadP04 a | .tableReadP05 a => a
  | .crcStepP01 a | .crcStepP04 a | .crcStepP05 a => a
  | .computeCrcP01 a | .computeCrcP04 a | .computeCrcP05 a => a
  | .constructP01 | .constructP04 | .constructP05 => 0x00
  | .initTableP01 | .initTableP04 | .initTableP05 => 0x00
  | .tryProtectP01 | .tryProtectP04 | .tryProtectP05 => 0x00
  | .tryForwardP01 | .tryForwardP04 | .tryForwardP05 => 0x00
  | .checkP01 | .checkP04 | .checkP05 => 0x00

/-- The command of an operation, a profile and an `ARG8`; format-`Z` commands carry no `ARG8`. -/
def Instr.of : Operation → Profile → Byte → Instr
  | .construct, .p01, _ => .constructP01
  | .construct, .p04, _ => .constructP04
  | .construct, .p05, _ => .constructP05
  | .initTable, .p01, _ => .initTableP01
  | .initTable, .p04, _ => .initTableP04
  | .initTable, .p05, _ => .initTableP05
  | .tableRead, .p01, a => .tableReadP01 a
  | .tableRead, .p04, a => .tableReadP04 a
  | .tableRead, .p05, a => .tableReadP05 a
  | .crcStep, .p01, a => .crcStepP01 a
  | .crcStep, .p04, a => .crcStepP04 a
  | .crcStep, .p05, a => .crcStepP05 a
  | .computeCrc, .p01, a => .computeCrcP01 a
  | .computeCrc, .p04, a => .computeCrcP04 a
  | .computeCrc, .p05, a => .computeCrcP05 a
  | .tryProtect, .p01, _ => .tryProtectP01
  | .tryProtect, .p04, _ => .tryProtectP04
  | .tryProtect, .p05, _ => .tryProtectP05
  | .tryForward, .p01, _ => .tryForwardP01
  | .tryForward, .p04, _ => .tryForwardP04
  | .tryForward, .p05, _ => .tryForwardP05
  | .check, .p01, _ => .checkP01
  | .check, .p04, _ => .checkP04
  | .check, .p05, _ => .checkP05

end Sys2Proof
end

