-- ==== Sys2Proof/WellFormed.lean ====
section
/-! DEFINITION. What is well formed before anything runs: a command word (30_encoding.md R99: it
matches one row of opcode_table.json) and a configuration (00_scope.md R6: the bounds on `N_INST`
and `MAX_FRAME_LEN`). The fields of an `Instr` have the widths of the spec as types, so every
`Instr` is well formed. -/

namespace Sys2Proof

/-- One row of opcode_table.json. -/
structure OpcodeRow where
  mnemonic : String
  mask : Half
  pattern : Half
  deriving DecidableEq, Repr

/-- opcode_table.json, row by row: mnemonic, `mask`, `match`. -/
def opcodeTable : List OpcodeRow := [
    ⟨"CONSTRUCT.P01", 0xFFFF, 0x0100⟩,
    ⟨"CONSTRUCT.P04", 0xFFFF, 0x0400⟩,
    ⟨"CONSTRUCT.P05", 0xFFFF, 0x0500⟩,
    ⟨"INIT_TABLE.P01", 0xFFFF, 0x1100⟩,
    ⟨"INIT_TABLE.P04", 0xFFFF, 0x1400⟩,
    ⟨"INIT_TABLE.P05", 0xFFFF, 0x1500⟩,
    ⟨"TABLE_READ.P01", 0xFF00, 0x2100⟩,
    ⟨"TABLE_READ.P04", 0xFF00, 0x2400⟩,
    ⟨"TABLE_READ.P05", 0xFF00, 0x2500⟩,
    ⟨"CRC_STEP.P01", 0xFF00, 0x3100⟩,
    ⟨"CRC_STEP.P04", 0xFF00, 0x3400⟩,
    ⟨"CRC_STEP.P05", 0xFF00, 0x3500⟩] ++ [
    ⟨"COMPUTE_CRC.P01", 0xFF00, 0x4100⟩,
    ⟨"COMPUTE_CRC.P04", 0xFF00, 0x4400⟩,
    ⟨"COMPUTE_CRC.P05", 0xFF00, 0x4500⟩,
    ⟨"TRY_PROTECT.P01", 0xFFFF, 0x5100⟩,
    ⟨"TRY_PROTECT.P04", 0xFFFF, 0x5400⟩,
    ⟨"TRY_PROTECT.P05", 0xFFFF, 0x5500⟩,
    ⟨"TRY_FORWARD.P01", 0xFFFF, 0x6100⟩,
    ⟨"TRY_FORWARD.P04", 0xFFFF, 0x6400⟩,
    ⟨"TRY_FORWARD.P05", 0xFFFF, 0x6500⟩,
    ⟨"CHECK.P01", 0xFFFF, 0x7100⟩,
    ⟨"CHECK.P04", 0xFFFF, 0x7400⟩,
    ⟨"CHECK.P05", 0xFFFF, 0x7500⟩]

/-- The word has the row's fixed bits. -/
def OpcodeRow.covers (r : OpcodeRow) (w : Half) : Bool :=
  w &&& r.mask == r.pattern

/-- R99: a command word is legal exactly when it matches one row of opcode_table.json. -/
def legalWord (w : Half) : Bool :=
  opcodeTable.any (·.covers w)

/-- R6: `MAX_FRAME_LEN` is "a natural number at least 7 (= H(04) + 1, so every profile can carry a
one-byte payload) or unbounded". The other fields take every value of their widths. -/
def Config.wf (c : Config) : Bool :=
  match c.maxFrameLen with
  | none => true
  | some m => 7 ≤ m

/-- R6: `N_INST` is at least 1. -/
def wfInstCount (n : Nat) : Bool := 1 ≤ n

end Sys2Proof
end

