-- ==== Sys2Proof/Decode.lean ====
section
/-! DEFINITION. Decoding and encoding of command words. `decode` is the procedure of 30_encoding.md
R100, total on every 16-bit word; `encode` is written from the field tables R91 to R94. -/

namespace Sys2Proof

/-- Why a word is no command (R99, R100): which of the three checks it fails first. -/
inductive Illegal where
  /-- `OP` is 0x8..0xF: answered with REJ_OPCODE. -/
  | opcode
  /-- `PROF` is none of 0x1, 0x4, 0x5: answered with REJ_PROFILE. -/
  | profile
  /-- `ARG8` is not 0x00 in a format-`Z` command: answered with REJ_ARG. -/
  | arg
  deriving DecidableEq, Repr

/-- The result of decoding a word. -/
inductive Decoded where
  | command (i : Instr)
  | illegal (r : Illegal)
  deriving DecidableEq, Repr

/-- CMD[15:12] (R91). -/
def opField (w : Half) : BitVec 4 := w.extractLsb' 12 4

/-- CMD[11:8] (R91). -/
def profField (w : Half) : BitVec 4 := w.extractLsb' 8 4

/-- CMD[7:0] (R91). -/
def argField (w : Half) : Byte := w.extractLsb' 0 8

/-- The operation an `OP` value names; 0x8 to 0xF are reserved (R92). -/
def decodeOp (op : BitVec 4) : Option Operation :=
  match op.toNat with
  | 0 => some .construct
  | 1 => some .initTable
  | 2 => some .tableRead
  | 3 => some .crcStep
  | 4 => some .computeCrc
  | 5 => some .tryProtect
  | 6 => some .tryForward
  | 7 => some .check
  | _ => none

/-- The profile a `PROF` value names; every value but 0x1, 0x4, 0x5 is reserved (R93). -/
def decodeProfile (prof : BitVec 4) : Option Profile :=
  match prof.toNat with
  | 1 => some .p01
  | 4 => some .p04
  | 5 => some .p05
  | _ => none

/-- R91, R94: the operations of format `Z`, whose `ARG8` must be 0x00. -/
def Operation.reservesArg : Operation → Bool
  | .construct | .initTable | .tryProtect | .tryForward | .check => true
  | .tableRead | .crcStep | .computeCrc => false

/-- The decoding procedure of R100: REJ_OPCODE, then REJ_PROFILE, then REJ_ARG. -/
def decode (w : Half) : Decoded :=
  match decodeOp (opField w) with
  | none => .illegal .opcode
  | some op =>
    match decodeProfile (profField w) with
    | none => .illegal .profile
    | some p =>
      if op.reservesArg ∧ argField w ≠ 0x00 then .illegal .arg
      else .command (Instr.of op p (argField w))

/-- The `OP` value of an operation (R92). -/
def opCode : Operation → BitVec 4
  | .construct => 0x0
  | .initTable => 0x1
  | .tableRead => 0x2
  | .crcStep => 0x3
  | .computeCrc => 0x4
  | .tryProtect => 0x5
  | .tryForward => 0x6
  | .check => 0x7

/-- The `PROF` value of a profile (R93). -/
def profCode : Profile → BitVec 4
  | .p01 => 0x1
  | .p04 => 0x4
  | .p05 => 0x5

/-- The command word of a command: OP, PROF, ARG8 from the most significant end (R91). Every
command is one word (R90). -/
def encode (i : Instr) : Half :=
  opCode i.op ++ profCode i.profile ++ i.arg8

/-- The host's question: the command the decoder reads from a word whose bits are w, of which the
opcode table gives nbits. Every command word has 16 bits (R90); the bits above nbits are 0. -/
def decodeTableWord (nbits w : Nat) : Option Instr :=
  match decode (BitVec.ofNat 16 (w % 2 ^ nbits)) with
  | .command i => some i
  | .illegal _ => none

end Sys2Proof
end

