-- ==== Sys2Proof/Machine/Params.lean ====
section
/-! DEFINITION. The constants of each profile and the recommended parameter values, both from
00_scope.md R6 (and `CIDX` from 30_encoding.md R104). They stand here, not in Config.lean, so that
their values can be mended. -/

namespace Sys2Proof.Machine

/-- `W(P)`, the CRC width (R6). -/
def crcWidth : Profile → Nat
  | .p01 => 8
  | .p04 => 32
  | .p05 => 16

/-- `H(P)`, the header length in bytes (R6). -/
def headerLen : Profile → Nat
  | .p01 => 2
  | .p04 => 6
  | .p05 => 3

/-- `CMAX(P)`, the counter maximum (R6, with 90_conflicts.md C1: 15 for profile 05). -/
def cmax : Profile → Nibble
  | .p01 => 14
  | .p04 => 14
  | .p05 => 15

/-- `REFL(P)`: the table is built and run LSB-first (R6). -/
def reflected : Profile → Bool
  | .p01 => false
  | .p04 => true
  | .p05 => true

/-- `CIDX(P)`, the index of the frame byte that carries the counter (R104). -/
def counterIndex : Profile → Nat
  | .p01 => 1
  | .p04 => 4
  | .p05 => 2

/-- `INIT(04)` (R6). -/
def init04 : BitVec 32 := 0xFFFFFFFF

/-- `INIT(05)` (R6, with 90_conflicts.md C4). -/
def init05 : BitVec 16 := 0xFFFF

/-- `XOROUT(01)` (R6). -/
def xorOut01 : BitVec 8 := 0xFF

/-- `XOROUT(04)` (R6). -/
def xorOut04 : BitVec 32 := 0xFFFFFFFF

/-- `XOROUT(05)`: no final XOR (R6). -/
def xorOut05 : BitVec 16 := 0x0000

/-- The recommended parameters of R6. PRESUMED: the polynomials and the CRC-8 start value are
general knowledge of the named CRCs, not in the source (93_implementation_defined.md I1, I6);
unsafe to lean on; log 5. -/
def recommendedConfig : Config where
  poly8 := 0x1D
  poly32 := 0xF4ACFB13
  poly16 := 0x8005
  crc8Init := 0xFF
  maxFrameLen := none

/-- The recommended `N_INST` (R6). -/
def recommendedInstCount : Nat := 8

end Sys2Proof.Machine
end

