-- ==== Sys2Proof/Machine/State.lean ====
section
/-! DEFINITION. The state of the block (10_state.md R30 to R45), the parameters of 00_scope.md R6,
and the host's side of the command port (30_encoding.md R90, R95, R96), all plain data; the reasons
a step can stop; and the state after power-on reset (70_reset_and_hazards.md R330). -/

namespace Sys2Proof.Machine

/-- The block never stops with a fault: "Nothing in this block is `fault` or `stuck`"
(93_implementation_defined.md, after Part B; 60_exceptions.md R310, R311). So this type has no
constructor, nobody raises a fault, and that is exact (log 14). -/
inductive Fault : Type
  deriving DecidableEq, Repr

/-- Why a step has no meaning. -/
inductive Refusal where
  /-- Raised only by an arm of `exec` whose instruction has no meaning yet; no arm is one. Safe: a
  claim about such an instruction could not be proved. -/
  | notModelled (mnemonic : String)
  deriving DecidableEq, Repr

/-- One CRC table unit `table[P]` (R31): 256 entries of W bits and the flag `VALID`. -/
structure TableUnit (w : Nat) where
  /-- `TBL`. -/
  tbl : Vector (BitVec w) 256
  /-- `VALID`: "the table has been built". -/
  valid : Bool
  deriving DecidableEq, Repr

/-- The values `TYPE` holds (R34); "other values never held". -/
inductive SlotType where
  /-- 0x0 NONE: the slot is UNCONSTRUCTED (R43). -/
  | unconstructed
  /-- 0x1, 0x4 or 0x5: the slot is ACTIVE with this profile (R43). -/
  | active (p : Profile)
  deriving DecidableEq, Repr

/-- The 4 bits of `TYPE` (R34). -/
def SlotType.code : SlotType → BitVec 4
  | .unconstructed => 0x0
  | .active .p01 => 0x1
  | .active .p04 => 0x4
  | .active .p05 => 0x5

/-- A profile-instance slot `inst[k]` (R34). -/
structure Slot where
  /-- `TYPE`. -/
  type : SlotType
  /-- `DATA_ID`, the configured DataID. -/
  dataId : Half
  /-- `MAX_DELTA`, the configured maximum delta, unsigned (R36). -/
  maxDelta : Byte
  /-- `PCNT`, the protecting (sender) counter. -/
  pcnt : Nibble
  /-- `CCNT`, the checking (receiver baseline) counter. -/
  ccnt : Nibble
  deriving DecidableEq, Repr

/-- The `STATUS` codes by name (30_encoding.md R97). -/
inductive Status where
  | done
  | frameTrue
  | inputFalse
  | kOk
  | kRepeated
  | kWrongSequence
  | kWrongCrc
  | kNoNewData
  | rejOpcode
  | rejProfile
  | rejArg
  | rejInstance
  | rejUnconstructed
  | rejMismatch
  | rejLength
  deriving DecidableEq, Repr

/-- The response of a command (10_state.md R42, 30_encoding.md R96). -/
structure Response where
  status : Status
  res : Word
  deriving DecidableEq, Repr

/-- The operand `IN` of a command: bytes the host wrote out, `[12 34]`, or a buffer of the host's,
`[@label]` (30_encoding.md R106), read when the command runs. -/
inductive InArg where
  | bytes (bs : List Byte)
  | buffer (b : Nat)
  deriving DecidableEq, Repr

/-- One command on the port (30_encoding.md R90, R95). -/
structure Command where
  /-- `CMD`, the 16-bit command word. -/
  word : Half
  /-- `INST`: "any unsigned value may be presented". -/
  inst : Nat
  /-- `OPA`. -/
  opa : Word
  /-- `IN`. -/
  input : InArg
  /-- `OUT`: the host buffer that a TRY command may write. -/
  out : Nat
  deriving DecidableEq, Repr

/-- What the outside world does next: it lets an agent's oldest command through (20_memory.md R74),
or it resets the block by power (70_reset_and_hazards.md R330). -/
inductive Event where
  | grant (agent : Nat)
  | powerOn
  deriving DecidableEq, Repr

/-- The host's byte buffers: pairs of a buffer's number and its bytes, numbers strictly rising, no
listed buffer empty; a buffer that is not listed is the empty byte sequence (log 2). -/
abbrev Buffers := List (Nat × List Byte)

/-- The whole state: the spec's own state is `t01` to `slots` (R30); `cfg` holds the parameters of
R6; `port` to `events` are the host's side of the command port. -/
structure State where
  /-- The parameters of R6 but `N_INST`, which is the length of `slots`. -/
  cfg : Config
  /-- `table[01]`. -/
  t01 : TableUnit 8
  /-- `table[04]`. -/
  t04 : TableUnit 32
  /-- `table[05]`. -/
  t05 : TableUnit 16
  /-- `inst[0]` to `inst[N_INST-1]`. -/
  slots : List Slot
  /-- The command being executed. -/
  port : Command
  /-- The response of the last command, if there has been one. -/
  resp : Option Response
  /-- The host's byte buffers. -/
  buffers : Buffers
  /-- For each host agent, the commands it has issued and the block has not run, oldest first. -/
  agents : List (List Command)
  /-- The order in which the outside world acts from here on. -/
  events : List Event
  deriving DecidableEq, Repr

/-- An unbuilt table after power-on: VALID = 0; the entries are "unspecified (never observable)"
(R44). DESIGN CHOICE: zeros; marked unsafe; log 4. -/
def TableUnit.powerOn (w : Nat) : TableUnit w where
  tbl := Vector.replicate 256 0
  valid := false

/-- A slot after power-on: TYPE = NONE; the other fields are "unspecified (never read while
TYPE = NONE)" (R44). DESIGN CHOICE: zeros; marked unsafe; log 4. -/
def Slot.powerOn : Slot where
  type := .unconstructed
  dataId := 0
  maxDelta := 0
  pcnt := 0
  ccnt := 0

/-- What the port shows before any command: never executed. DESIGN CHOICE: all zero; safe; log 1. -/
def Command.idle : Command where
  word := 0
  inst := 0
  opa := 0
  input := .bytes []
  out := 0

/-- A block with parameters `cfg` and `n` slots right after power-on reset (R330), before any host
agent has issued anything. -/
def State.powerOnWith (cfg : Config) (n : Nat) : State where
  cfg := cfg
  t01 := .powerOn 8
  t04 := .powerOn 32
  t05 := .powerOn 16
  slots := List.replicate n .powerOn
  port := .idle
  resp := none
  buffers := []
  agents := []
  events := []

/-- The machine right after reset, at the recommended parameters (R6, R330). -/
def State.reset : State := State.powerOnWith recommendedConfig recommendedInstCount

end Sys2Proof.Machine
end

