-- ==== Sys2Proof/Machine/CrcUnit.lean ====
section
/-! DEFINITION. The CRC table generator (40_crc_table.md R130 to R132, R134) and the CRC datapaths
(41_crc_datapaths.md R150 to R159), on bit vectors of a stated width. -/

namespace Sys2Proof.Machine

/-- `Reflect_W` (R130): bit W-1-i of the result is bit i of v. -/
def reflect {w : Nat} (v : BitVec w) : BitVec w :=
  (List.range w).foldl
    (fun r i => if v.getLsbD i then r ||| (1#w <<< (w - 1 - i)) else r) 0#w

/-- One MSB-first shift-and-XOR of R131: the outgoing bit is bit W-1. -/
def shiftMsb {w : Nat} (poly c : BitVec w) : BitVec w :=
  if c.msb then (c <<< 1) ^^^ poly else c <<< 1

/-- One LSB-first shift-and-XOR of R131 with the reflected polynomial p: the outgoing bit is
bit 0. -/
def shiftLsb {w : Nat} (p c : BitVec w) : BitVec w :=
  if c.getLsbD 0 then (c >>> 1) ^^^ p else c >>> 1

/-- `BuildEntry` (R131). -/
def buildEntry {w : Nat} (poly : BitVec w) (refl : Bool) (b : Byte) : BitVec w :=
  if refl then (shiftLsb (reflect poly))^[8] (b.setWidth w)
  else (shiftMsb poly)^[8] (b.setWidth w <<< (w - 8))

/-- `BuildTable` (R132): the 256 entries in order. -/
def buildTable {w : Nat} (poly : BitVec w) (refl : Bool) : Vector (BitVec w) 256 :=
  ⟨((List.range 256).map fun b => buildEntry poly refl (BitVec.ofNat 8 b)).toArray, by simp⟩

/-- `EnsureTable` on one unit (R134): build and publish unless it is built. -/
def TableUnit.ensure {w : Nat} (poly : BitVec w) (refl : Bool) (t : TableUnit w) : TableUnit w :=
  if t.valid then t else { tbl := buildTable poly refl, valid := true }

/-- A table entry, read whole by an 8-bit index (20_memory.md R71). -/
def entry {w : Nat} (T : Vector (BitVec w) 256) (b : Byte) : BitVec w :=
  T[b.toNat]'b.isLt

/-- The MSB-first step of R150. -/
def stepMsb {w : Nat} (T : Vector (BitVec w) 256) (c : BitVec w) (b : Byte) : BitVec w :=
  (c <<< 8) ^^^ entry T (((c >>> (w - 8)) ^^^ b.setWidth w).setWidth 8)

/-- The LSB-first step of R150. -/
def stepLsb {w : Nat} (T : Vector (BitVec w) 256) (c : BitVec w) (b : Byte) : BitVec w :=
  (c >>> 8) ^^^ entry T ((c ^^^ b.setWidth w).setWidth 8)

/-- `Step` (R150). -/
def crcStep {w : Nat} (refl : Bool) (T : Vector (BitVec w) 256) (c : BitVec w) (b : Byte) :
    BitVec w :=
  if refl then stepLsb T c b else stepMsb T c b

/-- `CrcRun` (R155): `Step` folded over the bytes from left to right. -/
def crcRun {w : Nat} (refl : Bool) (T : Vector (BitVec w) 256) (c : BitVec w) (bs : List Byte) :
    BitVec w :=
  bs.foldl (crcStep refl T) c

/-- The shift-register form `BitStep` (R154), which needs no table. -/
def bitStep {w : Nat} (poly : BitVec w) (refl : Bool) (c : BitVec w) (b : Byte) : BitVec w :=
  if refl then (shiftLsb (reflect poly))^[8] (c ^^^ b.setWidth w)
  else (shiftMsb poly)^[8] (c ^^^ (b.setWidth w <<< (w - 8)))

/-- `d[15:8]`, which enters every CRC input first (20_memory.md R68). -/
def idHi (d : Half) : Byte := d.extractLsb' 8 8

/-- `d[7:0]`, which enters every CRC input second (R68). -/
def idLo (d : Half) : Byte := d.extractLsb' 0 8

/-- `CrcInput01` (R156). -/
def crcInput01 (d : Half) (cb : Byte) (pl : List Byte) : List Byte :=
  [idHi d, idLo d, cb] ++ pl

/-- `Crc01` (R156); `init` is `CRC8_INIT`. -/
def crc01 (T : Vector (BitVec 8) 256) (init : BitVec 8) (d : Half) (cb : Byte) (pl : List Byte) :
    BitVec 8 :=
  crcRun (reflected .p01) T init (crcInput01 d cb pl) ^^^ xorOut01

/-- `CrcInput04` (R157); x is the fourth byte. -/
def crcInput04 (d : Half) (cb x : Byte) (pl : List Byte) : List Byte :=
  [idHi d, idLo d, cb, x] ++ pl

/-- `Crc04` (R157). -/
def crc04 (T : Vector (BitVec 32) 256) (d : Half) (cb x : Byte) (pl : List Byte) : BitVec 32 :=
  crcRun (reflected .p04) T init04 (crcInput04 d cb x pl) ^^^ xorOut04

/-- `CrcInput05` (R158). -/
def crcInput05 (d : Half) (cb : Byte) (pl : List Byte) : List Byte :=
  [idHi d, idLo d, cb] ++ pl

/-- `Crc05` (R158): no final XOR. -/
def crc05 (T : Vector (BitVec 16) 256) (d : Half) (cb : Byte) (pl : List Byte) : BitVec 16 :=
  crcRun (reflected .p05) T init05 (crcInput05 d cb pl) ^^^ xorOut05

end Sys2Proof.Machine
end

