-- ==== Sys2Proof/Machine/Operands.lean ====
section
/-! DEFINITION. The operand forms: byte sequences and byte order (00_scope.md R10, 20_memory.md
R61, R67), the host's buffers (R63), the operands of the command port (30_encoding.md R95), and the
header encoder and decoder of each profile (R101 to R104, 43_profile01.md R200, R201,
44_profile04.md R230, R231, 45_profile05.md R260, R261). -/

namespace Sys2Proof.Machine

/-- `IN[i]` (R61). Every use has i < len(IN); outside it is 0, which no command reads (log 17). -/
def byteAt (xs : List Byte) (i : Nat) : Byte := xs.getD i 0

/-- `MemRead(addr, m)` (R61). -/
def memRead (xs : List Byte) (addr m : Nat) : List Byte := (xs.drop addr).take m

/-- `LE16` (R10). -/
def le16 (v : BitVec 16) : List Byte := [v.extractLsb' 0 8, v.extractLsb' 8 8]

/-- `LE32` (R10). -/
def le32 (v : BitVec 32) : List Byte :=
  [v.extractLsb' 0 8, v.extractLsb' 8 8, v.extractLsb' 16 8, v.extractLsb' 24 8]

/-- `fromLE` at width w (R10): `xs[0] | xs[1]<<8 | ...`. -/
def fromLE (w : Nat) (xs : List Byte) : BitVec w :=
  xs.foldr (fun b acc => b.setWidth w ||| (acc <<< 8)) 0#w

/-- The bytes of buffer b; an unlisted buffer is empty (log 2). -/
def Buffers.read : Buffers → Nat → List Byte
  | [], _ => []
  | (a, bs) :: rest, b => if a = b then bs else Buffers.read rest b

/-- Puts an entry at its place in the rising order, in place of the buffer's old entry. -/
def Buffers.insert : Buffers → Nat → List Byte → Buffers
  | [], b, v => [(b, v)]
  | (a, bs) :: rest, b, v =>
    if b < a then (b, v) :: (a, bs) :: rest
    else if b = a then (b, v) :: rest
    else (a, bs) :: Buffers.insert rest b v

/-- Takes a buffer's entry out. -/
def Buffers.remove : Buffers → Nat → Buffers
  | [], _ => []
  | (a, bs) :: rest, b => if a = b then rest else (a, bs) :: Buffers.remove rest b

/-- Replaces the whole content of buffer b (R63); an empty content is not listed. -/
def Buffers.write (m : Buffers) (b : Nat) (v : List Byte) : Buffers :=
  if v = [] then m.remove b else m.insert b v

/-- The canonical form: numbers strictly rising, no listed buffer empty. -/
def Buffers.wf : Buffers → Bool
  | [] => true
  | (a, bs) :: rest =>
    bs ≠ [] && (match rest with | [] => true | (c, _) :: _ => decide (a < c)) && Buffers.wf rest

/-- `IN` of the command being executed (R95): the bytes given, or what the named buffer holds now. -/
def State.input (s : State) : List Byte :=
  match s.port.input with
  | .bytes bs => bs
  | .buffer b => s.buffers.read b

/-- `OPA[15:0]`, CONSTRUCT's dataId (R95). -/
def opaDataId (opa : Word) : Half := opa.extractLsb' 0 16

/-- `OPA[23:16]`, CONSTRUCT's maxDeltaCounter (R95). -/
def opaMaxDelta (opa : Word) : Byte := opa.extractLsb' 16 8

/-- `OPA[W-1:0]`, CRC_STEP's register in (R95). -/
def opaCrc (w : Nat) (opa : Word) : BitVec w := opa.setWidth w

/-- The counter nibble of a counter or control byte: bits 3:0 (R104). -/
def counterNibble (cb : Byte) : Nibble := cb.extractLsb' 0 4

/-- The control byte of a profile-01 header: `(d[7:4] << 4) | cnt` (R101, R200). -/
def controlByte01 (d : Half) (cnt : Nibble) : Byte :=
  ((d.extractLsb' 4 4).setWidth 8 <<< 4) ||| cnt.setWidth 8

/-- The counter byte of a profile-04 or profile-05 header: bits 7:4 are 0 (R102, R103). -/
def counterByte (cnt : Nibble) : Byte := cnt.setWidth 8

/-- `Encode01` (R200). -/
def encode01 (T : Vector (BitVec 8) 256) (init : BitVec 8) (d : Half) (cnt : Nibble)
    (pl : List Byte) : List Byte :=
  let cb := controlByte01 d cnt
  [crc01 T init d cb pl, cb] ++ pl

/-- `Encode04` (R230). -/
def encode04 (T : Vector (BitVec 32) 256) (d : Half) (cnt : Nibble) (pl : List Byte) : List Byte :=
  let cb := counterByte cnt
  let lo := idLo d
  le32 (crc04 T d cb lo pl) ++ [cb, lo] ++ pl

/-- `Encode05` (R260). -/
def encode05 (T : Vector (BitVec 16) 256) (d : Half) (cnt : Nibble) (pl : List Byte) : List Byte :=
  let cb := counterByte cnt
  le16 (crc05 T d cb pl) ++ [cb] ++ pl

/-- The fields of a decoded profile-01 frame (R201). -/
structure Fields01 where
  crcRecv : BitVec 8
  cb : Byte
  recv : Nibble
  idNibble : Nibble
  payload : List Byte
  deriving DecidableEq, Repr

/-- `Decode01` (R201), for a frame of at least 3 bytes. -/
def decode01 (fr : List Byte) : Fields01 where
  crcRecv := byteAt fr 0
  cb := byteAt fr 1
  recv := counterNibble (byteAt fr 1)
  idNibble := (byteAt fr 1).extractLsb' 4 4
  payload := memRead fr 2 (fr.length - 2)

/-- The fields of a decoded profile-04 frame (R231). -/
structure Fields04 where
  crcRecv : BitVec 32
  cb : Byte
  recv : Nibble
  idLow : Byte
  payload : List Byte
  deriving DecidableEq, Repr

/-- `Decode04` (R231), for a frame of at least 7 bytes. -/
def decode04 (fr : List Byte) : Fields04 where
  crcRecv := fromLE 32 (memRead fr 0 4)
  cb := byteAt fr 4
  recv := counterNibble (byteAt fr 4)
  idLow := byteAt fr 5
  payload := memRead fr 6 (fr.length - 6)

/-- The fields of a decoded profile-05 frame (R261). -/
structure Fields05 where
  crcRecv : BitVec 16
  cb : Byte
  recv : Nibble
  payload : List Byte
  deriving DecidableEq, Repr

/-- `Decode05` (R261), for a frame of at least 4 bytes. -/
def decode05 (fr : List Byte) : Fields05 where
  crcRecv := fromLE 16 (memRead fr 0 2)
  cb := byteAt fr 2
  recv := counterNibble (byteAt fr 2)
  payload := memRead fr 3 (fr.length - 3)

/-- The frame a TRY command emits: the profile's header before the payload, its CRC made with the
table as it stands (R200, R230, R260). -/
def State.frame (s : State) (p : Profile) (d : Half) (cnt : Nibble) (pl : List Byte) : List Byte :=
  match p with
  | .p01 => encode01 s.t01.tbl s.cfg.crc8Init d cnt pl
  | .p04 => encode04 s.t04.tbl d cnt pl
  | .p05 => encode05 s.t05.tbl d cnt pl

/-- The CRC of COMPUTE_CRC, extended to RES (41_crc_datapaths.md R166, R167, R168): for profile 04
the fourth input byte is the slot's own `DATA_ID[7:0]`. -/
def State.crcValue (s : State) (p : Profile) (d : Half) (cb : Byte) (pl : List Byte) : Word :=
  match p with
  | .p01 => (crc01 s.t01.tbl s.cfg.crc8Init d cb pl).setWidth 32
  | .p04 => crc04 s.t04.tbl d cb (idLo d) pl
  | .p05 => (crc05 s.t05.tbl d cb pl).setWidth 32

/-- CHECK's comparison `calc == crcRecv` (R209, R239, R269): the CRC is made over the configured
DataID, the received counter byte whole, for profile 04 the received byte 5, and the payload. -/
def State.crcMatches (s : State) (p : Profile) (d : Half) (fr : List Byte) : Bool :=
  match p with
  | .p01 =>
    let f := decode01 fr
    crc01 s.t01.tbl s.cfg.crc8Init d f.cb f.payload == f.crcRecv
  | .p04 =>
    let f := decode04 fr
    crc04 s.t04.tbl d f.cb f.idLow f.payload == f.crcRecv
  | .p05 =>
    let f := decode05 fr
    crc05 s.t05.tbl d f.cb f.payload == f.crcRecv

/-- The received counter `frame[CIDX(P)][3:0]` (R104). -/
def recvCounter (p : Profile) (fr : List Byte) : Nibble :=
  counterNibble (byteAt fr (counterIndex p))

end Sys2Proof.Machine
end

