-- ==== Sys2Proof/Machine/Flags.lean ====
section
/-! DEFINITION. The block has no flags (10_state.md R40, 42_counter_sequence.md R189). What stands
in their place is computed here: the counter increment (R180), the signed counter difference (R183)
and the classification that becomes a STATUS (R184), and the numbers of the STATUS codes
(30_encoding.md R97). -/

namespace Sys2Proof.Machine

/-- `CounterInc` (R180): wraps to 0 at max, and modulo 16 above it. -/
def counterInc (c max : Nibble) : Nibble :=
  if c = max then 0 else c + 1

/-- `Delta` (R183): the difference taken modulo 256 and read as signed 8 bits. -/
def delta (recv base : Nibble) : Int :=
  (recv.setWidth 8 - base.setWidth 8 : BitVec 8).toInt

/-- `Classify` (R184), compared as integers. -/
def classify (dl : Int) (maxDelta : Byte) : Status :=
  if dl = 0 then .kRepeated
  else if dl < 0 ∨ dl > (maxDelta.toNat : Int) then .kWrongSequence
  else .kOk

/-- The number of a STATUS (R97). -/
def Status.code : Status → BitVec 8
  | .done => 0x00
  | .frameTrue => 0x01
  | .inputFalse => 0x02
  | .kOk => 0x10
  | .kRepeated => 0x11
  | .kWrongSequence => 0x12
  | .kWrongCrc => 0x13
  | .kNoNewData => 0x14
  | .rejOpcode => 0x80
  | .rejProfile => 0x81
  | .rejArg => 0x82
  | .rejInstance => 0x83
  | .rejUnconstructed => 0x84
  | .rejMismatch => 0x85
  | .rejLength => 0x86

/-- The rejections of R97. -/
def Status.isRejection : Status → Bool
  | .rejOpcode | .rejProfile | .rejArg | .rejInstance => true
  | .rejUnconstructed | .rejMismatch | .rejLength => true
  | .done | .frameTrue | .inputFalse => false
  | .kOk | .kRepeated | .kWrongSequence | .kWrongCrc | .kNoNewData => false

/-- The STATUS of a word that is no command (R99). -/
def illegalStatus : Illegal → Status
  | .opcode => .rejOpcode
  | .profile => .rejProfile
  | .arg => .rejArg

end Sys2Proof.Machine
end

