-- ==== Sys2Proof/Machine/Ops.lean ====
section
/-! DEFINITION. The operations every meaning is built from: responding and rejecting (00_scope.md
R11, 60_exceptions.md R300), EnsureTable (40_crc_table.md R134), the slot write, MemWrite
(20_memory.md R63), admission (60_exceptions.md R301), power-on reset (70_reset_and_hazards.md
R330), and the bodies that a command family shares. The block has no exception to take or return
from (R310 to R312); a rejection is the one shared operation in its place. -/

namespace Sys2Proof.Machine

/-- The outcome of one step of this block. -/
abbrev StepOutcome := Host.Outcome State Fault Refusal

/-- `respond(status, res)` (R11). -/
def State.respond (s : State) (st : Status) (res : Word) : State :=
  { s with resp := some { status := st, res := res } }

/-- `raise Reject(code)` (R300): the response (code, 0) and nothing else, on the state as it was
before the command. -/
def reject (st : Status) (s : State) : StepOutcome :=
  .next (s.respond st 0)

/-- `EnsureTable(P)` (R134). -/
def State.ensureTable (p : Profile) (s : State) : State :=
  match p with
  | .p01 => { s with t01 := s.t01.ensure s.cfg.poly8 (reflected .p01) }
  | .p04 => { s with t04 := s.t04.ensure s.cfg.poly32 (reflected .p04) }
  | .p05 => { s with t05 := s.t05.ensure s.cfg.poly16 (reflected .p05) }

/-- A table entry zero-extended to RES (R140, R141, R142). -/
def State.tableEntry (s : State) (p : Profile) (i : Byte) : Word :=
  match p with
  | .p01 => (entry s.t01.tbl i).setWidth 32
  | .p04 => entry s.t04.tbl i
  | .p05 => (entry s.t05.tbl i).setWidth 32

/-- `Step(P, OPA[W-1:0], b)` zero-extended to RES (41_crc_datapaths.md R162, R163, R164). -/
def State.stepValue (s : State) (p : Profile) (b : Byte) : Word :=
  match p with
  | .p01 => (crcStep (reflected .p01) s.t01.tbl (opaCrc 8 s.port.opa) b).setWidth 32
  | .p04 => crcStep (reflected .p04) s.t04.tbl (opaCrc 32 s.port.opa) b
  | .p05 => (crcStep (reflected .p05) s.t05.tbl (opaCrc 16 s.port.opa) b).setWidth 32

/-- Writes the fields of slot k. -/
def State.setSlot (s : State) (k : Nat) (sl : Slot) : State :=
  { s with slots := s.slots.set k sl }

/-- `MemWrite(0, m, v)` (R63): the buffer that OUT names becomes v whole. -/
def State.memWrite (s : State) (v : List Byte) : State :=
  { s with buffers := s.buffers.write s.port.out v }

/-- n is longer than `MAX_FRAME_LEN` (20_memory.md R66); never when that is unbounded. -/
def tooLong (maxFrameLen : Option Nat) (n : Nat) : Bool :=
  match maxFrameLen with
  | none => false
  | some m => m < n

/-- Admission of a command on a constructed slot (R301, from the INST test on): the addressed slot,
or the first rejection. `extra` is H(P) for the TRY commands, whose output counts too, else 0. -/
def State.admission (s : State) (p : Profile) (extra : Nat) : Except Status Slot :=
  match s.slots[s.port.inst]? with
  | none => .error .rejInstance
  | some sl =>
    match sl.type with
    | .unconstructed => .error .rejUnconstructed
    | .active q =>
      if q ≠ p then .error .rejMismatch
      else if tooLong s.cfg.maxFrameLen s.input.length then .error .rejLength
      else if tooLong s.cfg.maxFrameLen (extra + s.input.length) then .error .rejLength
      else .ok sl

/-- CONSTRUCT (R205, R235, R265); its only slot test is `INST >= N_INST` (R301). -/
def construct (p : Profile) (s : State) : StepOutcome :=
  if s.slots.length ≤ s.port.inst then reject .rejInstance s
  else
    .next ((s.setSlot s.port.inst
      { type := .active p
        dataId := opaDataId s.port.opa
        maxDelta := opaMaxDelta s.port.opa
        pcnt := 0
        ccnt := 0 }).respond .done 0)

/-- INIT_TABLE (R136, R137, R138). -/
def initTable (p : Profile) (s : State) : StepOutcome :=
  .next ((s.ensureTable p).respond .done 0)

/-- TABLE_READ (R140, R141, R142). -/
def tableRead (p : Profile) (index : Byte) (s : State) : StepOutcome :=
  let s1 := s.ensureTable p
  .next (s1.respond .done (s1.tableEntry p index))

/-- CRC_STEP (R162, R163, R164). -/
def crcStepCommand (p : Profile) (data : Byte) (s : State) : StepOutcome :=
  let s1 := s.ensureTable p
  .next (s1.respond .done (s1.stepValue p data))

/-- COMPUTE_CRC (R166, R167, R168). -/
def computeCrc (p : Profile) (control : Byte) (s : State) : StepOutcome :=
  match s.admission p 0 with
  | .error st => reject st s
  | .ok sl =>
    let s1 := s.ensureTable p
    .next (s1.respond .done (s1.crcValue p sl.dataId control s.input))

/-- The body the two TRY commands share once the counter of the frame is chosen: PCNT becomes that
counter and OUT the frame around IN (R206, R207 and their like). IN is read before OUT is written
(R65). -/
def emitFrame (p : Profile) (sl : Slot) (cnt : Nibble) (s : State) : StepOutcome :=
  let s1 := s.ensureTable p
  .next (((s1.setSlot s.port.inst { sl with pcnt := cnt }).memWrite
    (s1.frame p sl.dataId cnt s.input)).respond .frameTrue 0)

/-- TRY_PROTECT (R206, R236, R266): FALSE on empty input (R303), else a frame with the incremented
PCNT. -/
def tryProtect (p : Profile) (s : State) : StepOutcome :=
  match s.admission p (headerLen p) with
  | .error st => reject st s
  | .ok sl =>
    if s.input.length = 0 then .next (s.respond .inputFalse 0)
    else emitFrame p sl (counterInc sl.pcnt (cmax p)) s

/-- TRY_FORWARD (R207, R237, R267): FALSE on empty input (R303), else a frame with CCNT, which PCNT
takes over. -/
def tryForward (p : Profile) (s : State) : StepOutcome :=
  match s.admission p (headerLen p) with
  | .error st => reject st s
  | .ok sl =>
    if s.input.length = 0 then .next (s.respond .inputFalse 0)
    else emitFrame p sl sl.ccnt s

/-- The outcome of a CHECK that reads a counter (42_counter_sequence.md R186, steps 3 and 4). -/
def State.verdict (s : State) (p : Profile) (sl : Slot) (fr : List Byte) : Status :=
  if s.crcMatches p sl.dataId fr then classify (delta (recvCounter p fr) sl.ccnt) sl.maxDelta
  else .kWrongCrc

/-- CHECK (R186, R209, R239, R269). -/
def check (p : Profile) (s : State) : StepOutcome :=
  match s.admission p 0 with
  | .error st => reject st s
  | .ok sl =>
    if s.input.length < headerLen p + 1 then .next (s.respond .kNoNewData 0)
    else
      let s1 := s.ensureTable p
      .next ((s1.setSlot s.port.inst { sl with ccnt := recvCounter p s.input }).respond
        (s1.verdict p sl s.input) 0)

/-- Power-on reset of the block (R330): every slot and every table as after power-on; the
parameters, the number of slots and the host's side are no part of it (log 9). -/
def State.powerOnReset (s : State) : State :=
  { s with
    t01 := .powerOn 8
    t04 := .powerOn 32
    t05 := .powerOn 16
    slots := List.replicate s.slots.length .powerOn }

end Sys2Proof.Machine
end

