-- ==== Sys2Proof/Machine/Fetch.lean ====
section
/-! DEFINITION. How a command reaches the block: the outside world's next event either lets an
agent's oldest command through to the port, or resets the block by power (20_memory.md R74,
70_reset_and_hazards.md R330). The block fetches no instructions (R78); this is the command port
(30_encoding.md R90). -/

namespace Sys2Proof.Machine

/-- What one event brings. -/
inductive Fetched where
  /-- No command runs in this step; this is the state after it. -/
  | idle (s : State)
  /-- The command in the port of this state runs. -/
  | command (s : State)
  deriving DecidableEq, Repr

/-- Takes the next event (R74). An agent's commands come in the order it issued them; a grant to an
agent with nothing to issue, and the lack of any event, leave the block as it is (log 8). -/
def State.fetch (s : State) : Fetched :=
  match s.events with
  | [] => .idle s
  | .powerOn :: es => .idle { s with events := es }.powerOnReset
  | .grant a :: es =>
    match s.agents[a]? with
    | some (c :: q) => .command { s with events := es, agents := s.agents.set a q, port := c }
    | some [] => .idle { s with events := es }
    | none => .idle { s with events := es }

/-- Agent 0's queue with one more command in front. -/
def issueFirst (c : Command) : List (List Command) → List (List Command)
  | [] => [[c]]
  | q :: qs => (c :: q) :: qs

/-- A host issues a command that the block runs next: agent 0 puts it before all it has issued, and
is let through first. -/
def State.issue (s : State) (c : Command) : State :=
  { s with agents := issueFirst c s.agents, events := .grant 0 :: s.events }

/-- The command with word w and the operands the port shows now. -/
def State.commandOf (s : State) (w : Half) : Command :=
  { s.port with word := w }

end Sys2Proof.Machine
end

