-- ==== Sys2Proof/Machine/Slots.lean ====
section
/-! DEFINITION. The commands on a profile-instance slot: CONSTRUCT, COMPUTE_CRC, TRY_PROTECT,
TRY_FORWARD and CHECK of each profile (41_crc_datapaths.md R166 to R168, 43_profile01.md,
44_profile04.md, 45_profile05.md), each after the admission of 60_exceptions.md R301. -/

namespace Sys2Proof.Machine

/-- R205. -/
def execConstructP01 (s : State) : StepOutcome := construct .p01 s

/-- R235. -/
def execConstructP04 (s : State) : StepOutcome := construct .p04 s

/-- R265. -/
def execConstructP05 (s : State) : StepOutcome := construct .p05 s

/-- R166. -/
def execComputeCrcP01 (control : Byte) (s : State) : StepOutcome := computeCrc .p01 control s

/-- R167. -/
def execComputeCrcP04 (control : Byte) (s : State) : StepOutcome := computeCrc .p04 control s

/-- R168. -/
def execComputeCrcP05 (control : Byte) (s : State) : StepOutcome := computeCrc .p05 control s

/-- R206. -/
def execTryProtectP01 (s : State) : StepOutcome := tryProtect .p01 s

/-- R236. -/
def execTryProtectP04 (s : State) : StepOutcome := tryProtect .p04 s

/-- R266. -/
def execTryProtectP05 (s : State) : StepOutcome := tryProtect .p05 s

/-- R207. -/
def execTryForwardP01 (s : State) : StepOutcome := tryForward .p01 s

/-- R237. -/
def execTryForwardP04 (s : State) : StepOutcome := tryForward .p04 s

/-- R267. -/
def execTryForwardP05 (s : State) : StepOutcome := tryForward .p05 s

/-- R209. -/
def execCheckP01 (s : State) : StepOutcome := check .p01 s

/-- R239. -/
def execCheckP04 (s : State) : StepOutcome := check .p04 s

/-- R269. -/
def execCheckP05 (s : State) : StepOutcome := check .p05 s

end Sys2Proof.Machine
end

