-- ==== Sys2Proof/Machine/Table.lean ====
section
/-! DEFINITION. The commands on a CRC table unit: INIT_TABLE (40_crc_table.md R136, R137, R138),
TABLE_READ (R140, R141, R142) and CRC_STEP (41_crc_datapaths.md R162, R163, R164). INST, IN and the
operand bits they do not name are ignored. -/

namespace Sys2Proof.Machine

/-- R136. -/
def execInitTableP01 (s : State) : StepOutcome := initTable .p01 s

/-- R137. -/
def execInitTableP04 (s : State) : StepOutcome := initTable .p04 s

/-- R138. -/
def execInitTableP05 (s : State) : StepOutcome := initTable .p05 s

/-- R140. -/
def execTableReadP01 (index : Byte) (s : State) : StepOutcome := tableRead .p01 index s

/-- R141. -/
def execTableReadP04 (index : Byte) (s : State) : StepOutcome := tableRead .p04 index s

/-- R142. -/
def execTableReadP05 (index : Byte) (s : State) : StepOutcome := tableRead .p05 index s

/-- R162. -/
def execCrcStepP01 (data : Byte) (s : State) : StepOutcome := crcStepCommand .p01 data s

/-- R163. -/
def execCrcStepP04 (data : Byte) (s : State) : StepOutcome := crcStepCommand .p04 data s

/-- R164. -/
def execCrcStepP05 (data : Byte) (s : State) : StepOutcome := crcStepCommand .p05 data s

end Sys2Proof.Machine
end

