-- ==== Sys2Proof/Machine/Dispatch.lean ====
section
/-! DEFINITION. One arm per command: each command's meaning. -/

namespace Sys2Proof.Machine

def exec (i : Instr) (s : State) : Host.Outcome State Fault Refusal :=
  match i with
  | .constructP01 => Sys2Proof.Machine.execConstructP01 s
  | .constructP04 => Sys2Proof.Machine.execConstructP04 s
  | .constructP05 => Sys2Proof.Machine.execConstructP05 s
  | .initTableP01 => Sys2Proof.Machine.execInitTableP01 s
  | .initTableP04 => Sys2Proof.Machine.execInitTableP04 s
  | .initTableP05 => Sys2Proof.Machine.execInitTableP05 s
  | .tableReadP01 index => Sys2Proof.Machine.execTableReadP01 index s
  | .tableReadP04 index => Sys2Proof.Machine.execTableReadP04 index s
  | .tableReadP05 index => Sys2Proof.Machine.execTableReadP05 index s
  | .crcStepP01 data => Sys2Proof.Machine.execCrcStepP01 data s
  | .crcStepP04 data => Sys2Proof.Machine.execCrcStepP04 data s
  | .crcStepP05 data => Sys2Proof.Machine.execCrcStepP05 data s
  | .computeCrcP01 control => Sys2Proof.Machine.execComputeCrcP01 control s
  | .computeCrcP04 control => Sys2Proof.Machine.execComputeCrcP04 control s
  | .computeCrcP05 control => Sys2Proof.Machine.execComputeCrcP05 control s
  | .tryProtectP01 => Sys2Proof.Machine.execTryProtectP01 s
  | .tryProtectP04 => Sys2Proof.Machine.execTryProtectP04 s
  | .tryProtectP05 => Sys2Proof.Machine.execTryProtectP05 s
  | .tryForwardP01 => Sys2Proof.Machine.execTryForwardP01 s
  | .tryForwardP04 => Sys2Proof.Machine.execTryForwardP04 s
  | .tryForwardP05 => Sys2Proof.Machine.execTryForwardP05 s
  | .checkP01 => Sys2Proof.Machine.execCheckP01 s
  | .checkP04 => Sys2Proof.Machine.execCheckP04 s
  | .checkP05 => Sys2Proof.Machine.execCheckP05 s

end Sys2Proof.Machine
end

