-- ==== Sys2Proof/Machine/Port.lean ====
section
/-! DEFINITION. Running the command in the port: its word is decoded (30_encoding.md R100) and the
command executed, or the word rejected (60_exceptions.md R300, R301). -/

namespace Sys2Proof.Machine

/-- Runs the command in the port of s: admission's first three tests are the decoder's (R301). -/
def runPort (s : State) : Host.Outcome State Fault Refusal :=
  match decode s.port.word with
  | .command i => exec i s
  | .illegal r => reject (illegalStatus r) s

end Sys2Proof.Machine
end

