-- ==== Sys2Proof/Machine/Step.lean ====
section
/-! DEFINITION. One step: the next event; if it brings a command, that command is run.
One command is one step (70_reset_and_hazards.md R350). -/

namespace Sys2Proof.Machine

/-- One step of the machine. -/
def step (s : State) : Host.Outcome State Fault Refusal :=
  match s.fetch with
  | .idle s' => .next s'
  | .command s' => runPort s'

/-- s with a command of word w (its bits above nbits zero) issued so that the next step runs it,
with the operands the port shows (log 3). -/
def State.withFetchWord (s : State) (nbits w : Nat) : State :=
  s.issue (s.commandOf (BitVec.ofNat 16 (w % 2 ^ nbits)))

end Sys2Proof.Machine
end

