-- ==== Sys2Proof/Machine/Asm.lean ====
section
/-! DEFINITION. The host's assembler (30_encoding.md R106, R107): a line, the command it stands for,
its written form, and the three pseudo-instructions. All of it is host-side; the block sees only
commands. -/

namespace Sys2Proof.Machine

/-- One assembler line (R106). A `TRY_PROTECT` or `TRY_FORWARD` line names its output buffer by a
number, which stands for the line's `<label>:`; an input `.buffer b` is `[@label]`. -/
inductive Line where
  | construct (p : Profile) (k : Nat) (id : Half) (maxDelta : Option Byte)
  | initTable (p : Profile)
  | tableRead (p : Profile) (index : Byte)
  | crcStep (p : Profile) (crcIn : Word) (data : Byte)
  | computeCrc (p : Profile) (k : Nat) (control : Byte) (input : InArg)
  | tryProtect (p : Profile) (k : Nat) (input : InArg) (out : Nat)
  | tryForward (p : Profile) (k : Nat) (input : InArg) (out : Nat)
  | check (p : Profile) (k : Nat) (input : InArg)
  deriving DecidableEq, Repr

/-- The maximum delta of a CONSTRUCT line that omits `maxdelta=` (R6, R106). -/
def defaultMaxDelta : Byte := 1

/-- `OPA = maxdelta<<16 | id` (R106). -/
def constructOpa (id : Half) (maxDelta : Byte) : Word :=
  (maxDelta.setWidth 32 <<< 16) ||| id.setWidth 32

/-- The command word of a line. -/
def Line.word : Line → Half
  | .construct p _ _ _ => encode (.of .construct p 0x00)
  | .initTable p => encode (.of .initTable p 0x00)
  | .tableRead p i => encode (.of .tableRead p i)
  | .crcStep p _ b => encode (.of .crcStep p b)
  | .computeCrc p _ cb _ => encode (.of .computeCrc p cb)
  | .tryProtect p _ _ _ => encode (.of .tryProtect p 0x00)
  | .tryForward p _ _ _ => encode (.of .tryForward p 0x00)
  | .check p _ _ => encode (.of .check p 0x00)

/-- The command a line stands for (R106, "fields set"); operands it does not set are 0 and `[]`. -/
def Line.assemble (l : Line) : Command :=
  match l with
  | .construct _ k id md =>
    { word := l.word, inst := k, opa := constructOpa id (md.getD defaultMaxDelta)
      input := .bytes [], out := 0 }
  | .initTable _ => { word := l.word, inst := 0, opa := 0, input := .bytes [], out := 0 }
  | .tableRead _ _ => { word := l.word, inst := 0, opa := 0, input := .bytes [], out := 0 }
  | .crcStep _ c _ => { word := l.word, inst := 0, opa := c, input := .bytes [], out := 0 }
  | .computeCrc _ k _ inp => { word := l.word, inst := k, opa := 0, input := inp, out := 0 }
  | .tryProtect _ k inp out => { word := l.word, inst := k, opa := 0, input := inp, out := out }
  | .tryForward _ k inp out => { word := l.word, inst := k, opa := 0, input := inp, out := out }
  | .check _ k inp => { word := l.word, inst := k, opa := 0, input := inp, out := 0 }

/-- A hexadecimal digit. -/
def hexDigit (n : Nat) : Char := "0123456789ABCDEF".toList.getD n '?'

/-- v as k hexadecimal digits. -/
def hexDigits : Nat → Nat → List Char
  | 0, _ => []
  | k + 1, v => hexDigits k (v / 16) ++ [hexDigit (v % 16)]

/-- v as `0x` and k hexadecimal digits (00_scope.md R8). -/
def hexText (k v : Nat) : String := "0x" ++ String.ofList (hexDigits k v)

/-- `.P01`, `.P04` or `.P05`. -/
def profileText : Profile → String
  | .p01 => ".P01"
  | .p04 => ".P04"
  | .p05 => ".P05"

/-- `[<bytes>]`, or `[@<label>]` with the label of buffer b written L and its number. -/
def inputText : InArg → String
  | .bytes bs =>
    "[" ++ " ".intercalate (bs.map fun b => String.ofList (hexDigits 2 b.toNat)) ++ "]"
  | .buffer b => "[@L" ++ toString b ++ "]"

/-- The written form of a line (R106). -/
def Line.text : Line → String
  | .construct p k id md =>
    "CONSTRUCT" ++ profileText p ++ " i" ++ toString k ++ ", id=" ++ hexText 4 id.toNat ++
      (match md with
       | none => ""
       | some m => ", maxdelta=" ++ toString m.toNat)
  | .initTable p => "INIT_TABLE" ++ profileText p
  | .tableRead p i => "TABLE_READ" ++ profileText p ++ " " ++ hexText 2 i.toNat
  | .crcStep p c b =>
    "CRC_STEP" ++ profileText p ++ " " ++ hexText (crcWidth p / 4) c.toNat ++ ", " ++
      hexText 2 b.toNat
  | .computeCrc p k cb inp =>
    "COMPUTE_CRC" ++ profileText p ++ " i" ++ toString k ++ ", " ++ hexText 2 cb.toNat ++ ", " ++
      inputText inp
  | .tryProtect p k inp out =>
    "L" ++ toString out ++ ": TRY_PROTECT" ++ profileText p ++ " i" ++ toString k ++ ", " ++
      inputText inp
  | .tryForward p k inp out =>
    "L" ++ toString out ++ ": TRY_FORWARD" ++ profileText p ++ " i" ++ toString k ++ ", " ++
      inputText inp
  | .check p k inp => "CHECK" ++ profileText p ++ " i" ++ toString k ++ ", " ++ inputText inp

/-- `INIT_ALL` (R107). -/
def initAll : List Line := [.initTable .p01, .initTable .p04, .initTable .p05]

/-- `PROTECT_CHECK.Pxx i<s>, i<r>, [<bytes>]` (R107), the frame passing through buffer `out`. -/
def protectCheck (p : Profile) (snd rcv : Nat) (bs : List Byte) (out : Nat) : List Line :=
  [.tryProtect p snd (.bytes bs) out, .check p rcv (.buffer out)]

/-- The host issues a command and the block runs it; the state after it. -/
def State.run (s : State) (c : Command) : State :=
  match step (s.issue c) with
  | .next t => t
  | .fault _ => s
  | .refused _ => s

/-- RES of the last response, which the host reads; 0 before any. -/
def State.lastRes (s : State) : Word :=
  match s.resp with
  | some r => r.res
  | none => 0

/-- `CRC_BYTES.Pxx <init>, [b0 .. bm]` (R107): one CRC_STEP a byte, each with the RES of the one
before; what it yields, and the state after it. For an empty list it yields `<init>`. -/
def crcBytes (p : Profile) (c : Word) : List Byte → State → Word × State
  | [], s => (c, s)
  | b :: bs, s =>
    let t := s.run (Line.crcStep p c b).assemble
    crcBytes p t.lastRes bs t

end Sys2Proof.Machine
end

