-- ==== Sys2Proof/Safety.lean ====
section
/-! DEFINITION. What counts as a safe run, in the terms the statements use: the invariant of the
block (10_state.md R32; the bounds of 00_scope.md R6; the canonical form of the host's buffers), the
parts of a state, and the observable equality of 10_state.md R33 and R45. -/

namespace Sys2Proof.Machine

/-- `BuildTable(POLY(01), REFL(01), W(01))` (R32, R132: `T01`). -/
def T01 (c : Config) : Vector (BitVec 8) 256 := buildTable c.poly8 (reflected .p01)

/-- `BuildTable(POLY(04), REFL(04), W(04))` (R32, R132: `T04`). -/
def T04 (c : Config) : Vector (BitVec 32) 256 := buildTable c.poly32 (reflected .p04)

/-- `BuildTable(POLY(05), REFL(05), W(05))` (R32, R132: `T05`). -/
def T05 (c : Config) : Vector (BitVec 16) 256 := buildTable c.poly16 (reflected .p05)

/-- The invariant of R32: a table marked VALID is the built one. -/
def State.tablesOk (s : State) : Prop :=
  (s.t01.valid = true → s.t01.tbl = T01 s.cfg) ∧
  (s.t04.valid = true → s.t04.tbl = T04 s.cfg) ∧
  (s.t05.valid = true → s.t05.tbl = T05 s.cfg)

/-- The invariant of the machine: R32, the bounds of R6, and the buffers' canonical form. -/
structure State.Inv (s : State) : Prop where
  tables : s.tablesOk
  cfg : s.cfg.wf = true
  slots : wfInstCount s.slots.length = true
  buffers : s.buffers.wf = true

/-- `table[P].VALID`. -/
def State.tableValid (s : State) : Profile → Bool
  | .p01 => s.t01.valid
  | .p04 => s.t04.valid
  | .p05 => s.t05.valid

/-- The two slots are equal, or both UNCONSTRUCTED: then their other fields are unspecified and
never observed (R45). -/
def Slot.same (a b : Slot) : Prop :=
  a = b ∨ (a.type = .unconstructed ∧ b.type = .unconstructed)

/-- Two slot banks that no command can tell apart (R45). -/
def sameSlots (xs ys : List Slot) : Prop :=
  List.Forall₂ Slot.same xs ys

/-- Two states that no command can tell apart: everything but the table units, which are hidden
(R33), and the unspecified fields of UNCONSTRUCTED slots (R45), is equal. -/
structure State.observablySame (s t : State) : Prop where
  cfg : s.cfg = t.cfg
  slots : sameSlots s.slots t.slots
  port : s.port = t.port
  resp : s.resp = t.resp
  buffers : s.buffers = t.buffers
  agents : s.agents = t.agents
  events : s.events = t.events

/-- The slot that a command addresses. -/
def State.addressed (s : State) : Option Slot := s.slots[s.port.inst]?

/-- Admission passes (60_exceptions.md R301) for COMPUTE_CRC or CHECK of profile p on slot sl. -/
def State.admits (s : State) (p : Profile) (sl : Slot) : Prop :=
  s.addressed = some sl ∧ sl.type = .active p ∧
    tooLong s.cfg.maxFrameLen s.input.length = false

/-- Admission passes (R301) for TRY_PROTECT or TRY_FORWARD of profile p on slot sl: the output
frame fits too. -/
def State.admitsOutput (s : State) (p : Profile) (sl : Slot) : Prop :=
  s.admits p sl ∧ tooLong s.cfg.maxFrameLen (headerLen p + s.input.length) = false

/-- `table[P]` is built: VALID = 1 and the entries are BuildTable's (R32). -/
def State.tableBuilt (s : State) : Profile → Prop
  | .p01 => s.t01 = { tbl := T01 s.cfg, valid := true }
  | .p04 => s.t04 = { tbl := T04 s.cfg, valid := true }
  | .p05 => s.t05 = { tbl := T05 s.cfg, valid := true }

/-- The tables of the other profiles are untouched from s to t. -/
def keepsOtherTables (p : Profile) (s t : State) : Prop :=
  match p with
  | .p01 => t.t04 = s.t04 ∧ t.t05 = s.t05
  | .p04 => t.t01 = s.t01 ∧ t.t05 = s.t05
  | .p05 => t.t01 = s.t01 ∧ t.t04 = s.t04

/-- All three tables are untouched from s to t. -/
def keepsTables (s t : State) : Prop :=
  t.t01 = s.t01 ∧ t.t04 = s.t04 ∧ t.t05 = s.t05

/-- The parameters and the host's side of the port, but the response and the buffers, are untouched
from s to t. -/
structure KeepsPort (s t : State) : Prop where
  cfg : t.cfg = s.cfg
  port : t.port = s.port
  agents : t.agents = s.agents
  events : t.events = s.events

/-- Every slot but k is untouched from s to t, and there are as many slots. -/
def keepsOtherSlots (k : Nat) (s t : State) : Prop :=
  t.slots.length = s.slots.length ∧ ∀ j, j ≠ k → t.slots[j]? = s.slots[j]?

/-- Every host buffer but b is untouched, byte for byte, from s to t. -/
def keepsOtherBuffers (b : Nat) (s t : State) : Prop :=
  ∀ a, a ≠ b → t.buffers.read a = s.buffers.read a

/-- The CRC of profile p over DataID d, control or counter byte cb and payload pl, extended to
RES: R156, R157 (with the slot's own low DataID byte, R167), R158. -/
def crcOf (c : Config) (p : Profile) (d : Half) (cb : Byte) (pl : List Byte) : Word :=
  match p with
  | .p01 => (crcRun false (T01 c) c.crc8Init (idHi d :: idLo d :: cb :: pl) ^^^ 0xFF).setWidth 32
  | .p04 => crcRun true (T04 c) 0xFFFFFFFF (idHi d :: idLo d :: cb :: idLo d :: pl) ^^^ 0xFFFFFFFF
  | .p05 => (crcRun true (T05 c) 0xFFFF (idHi d :: idLo d :: cb :: pl)).setWidth 32

/-- The frame of profile p for DataID d, counter cnt and payload pl: the byte tables of
30_encoding.md R101, R102, R103, the CRC made over R156, R157, R158. -/
def frameOf (c : Config) (p : Profile) (d : Half) (cnt : Nibble) (pl : List Byte) :
    List Byte :=
  match p with
  | .p01 =>
    let cb : Byte := d.extractLsb' 4 4 ++ cnt
    (crcOf c .p01 d cb pl).setWidth 8 :: cb :: pl
  | .p04 =>
    let cb : Byte := 0#4 ++ cnt
    let crc := crcOf c .p04 d cb pl
    crc.extractLsb' 0 8 :: crc.extractLsb' 8 8 :: crc.extractLsb' 16 8 :: crc.extractLsb' 24 8 ::
      cb :: idLo d :: pl
  | .p05 =>
    let cb : Byte := 0#4 ++ cnt
    let crc := crcOf c .p05 d cb pl
    crc.extractLsb' 0 8 :: crc.extractLsb' 8 8 :: cb :: pl

/-- The CRC field of a frame agrees with the CRC that CHECK makes under DataID d (R209, R239,
R269): over the configured DataID, the received counter byte whole, for profile 04 the received
byte 5, and the payload; the field is little-endian (20_memory.md R67). -/
def crcOk (c : Config) (p : Profile) (d : Half) (fr : List Byte) : Prop :=
  match p with
  | .p01 =>
    fr.take 1 =
      [crcRun false (T01 c) c.crc8Init (idHi d :: idLo d :: fr.getD 1 0 :: fr.drop 2) ^^^ 0xFF]
  | .p04 =>
    fr.take 4 =
      le32 (crcRun true (T04 c) 0xFFFFFFFF
        (idHi d :: idLo d :: fr.getD 4 0 :: fr.getD 5 0 :: fr.drop 6) ^^^ 0xFFFFFFFF)
  | .p05 =>
    fr.take 2 =
      le16 (crcRun true (T05 c) 0xFFFF (idHi d :: idLo d :: fr.getD 2 0 :: fr.drop 3))

/-- The counter a frame of profile p carries: bits 3:0 of byte 1, 4 or 2 (R104). -/
def frameCounter (p : Profile) (fr : List Byte) : Nibble :=
  match p with
  | .p01 => (fr.getD 1 0).setWidth 4
  | .p04 => (fr.getD 4 0).setWidth 4
  | .p05 => (fr.getD 2 0).setWidth 4

/-- The outcome that R186 gives a frame whose CRC is right (C) or wrong, by the received counter,
the baseline and the maximum delta, as unsigned numbers. -/
structure CheckOutcome (C : Prop) (recv base : Nibble) (maxDelta : Byte) (st : Status) : Prop where
  wrongCrc : ¬C → st = .kWrongCrc
  repeated : C → recv = base → st = .kRepeated
  backward : C → recv.toNat < base.toNat → st = .kWrongSequence
  jump : C → base.toNat + maxDelta.toNat < recv.toNat → st = .kWrongSequence
  ok : C → base.toNat < recv.toNat → recv.toNat ≤ base.toNat + maxDelta.toNat → st = .kOk

/-- The constant term of profile p's polynomial is 1. -/
def polyOdd (c : Config) : Profile → Prop
  | .p01 => c.poly8.getLsbD 0 = true
  | .p04 => c.poly32.getLsbD 0 = true
  | .p05 => c.poly16.getLsbD 0 = true

/-- n steps of the machine. -/
def steps : Nat → State → Option State
  | 0, s => some s
  | n + 1, s =>
    match step s with
    | .next t => steps n t
    | .fault _ => none
    | .refused _ => none

/-- The same command n times over from s, each time with what the port shows. -/
def repeated (i : Instr) : Nat → State → Option State
  | 0, s => some s
  | n + 1, s =>
    match exec i s with
    | .next t => repeated i n t
    | .fault _ => none
    | .refused _ => none

/-- The commands of a total order run one whole command at a time (20_memory.md R74). -/
def serialRun : List Command → State → State
  | [], s => s
  | c :: cs, s =>
    match runPort { s with port := c } with
    | .next t => serialRun cs t
    | .fault _ => s
    | .refused _ => s

end Sys2Proof.Machine
end

