-- ==== Sys2Proof/Certificates/Slice0/Obligations.lean ====
section
/-! DEFINITION. The statements for the provers. Each docstring names the rules it formalises. A
command is named by its operation and profile: `i.op = .check` with `i.profile = .p04` is CHECK.P04,
so a statement over `i.op` is about the three commands of that operation, in every profile. Every
statement is for every value of the parameters of 00_scope.md R6 (`s.cfg`, `s.slots.length`). -/

open Sys2Proof
open Sys2Proof.Machine

/-! ## Encoding -/

/-- 30_encoding.md R91 to R94: decoding an encoded command gives it back with its ARG8, and a word
that decodes to a command is that command's encoding, so no bit of a word is dropped. -/
def Obligations.DecodeEncodeAgree : Prop :=
  (∀ i : Instr, decode (encode i) = .command i) ∧
  (∀ (w : Half) (i : Instr), decode w = .command i → encode i = w)

/-- R99: a word decodes to a command exactly when it matches a row of opcode_table.json; then it
matches one row only; every other word, in whatever state, is rejected with no state change but the
response, by the first of the three checks OP, PROF, ARG8 that it fails. -/
def Obligations.LegalWordsAreTheTableRows : Prop :=
  (∀ w : Half, (∃ i, decode w = .command i) ↔ ∃ r ∈ opcodeTable, w &&& r.mask = r.pattern) ∧
  (∀ (w : Half) (r q : OpcodeRow), r ∈ opcodeTable → q ∈ opcodeTable →
    w &&& r.mask = r.pattern → w &&& q.mask = q.pattern → r = q) ∧
  (∀ s : State, 7 < (s.port.word >>> 12).toNat →
    runPort s = .next { s with resp := some ⟨.rejOpcode, 0⟩ }) ∧
  (∀ s : State, (s.port.word >>> 12).toNat ≤ 7 →
    ((s.port.word >>> 8).toNat % 16 ≠ 1 ∧ (s.port.word >>> 8).toNat % 16 ≠ 4 ∧
      (s.port.word >>> 8).toNat % 16 ≠ 5) →
    runPort s = .next { s with resp := some ⟨.rejProfile, 0⟩ }) ∧
  (∀ s : State, (s.port.word >>> 12).toNat ∈ [0, 1, 5, 6, 7] →
    (s.port.word >>> 8).toNat % 16 ∈ [1, 4, 5] → s.port.word.toNat % 256 ≠ 0 →
    runPort s = .next { s with resp := some ⟨.rejArg, 0⟩ })

/-- Words written out from R91 to R94 decode to the commands they stand for. -/
def Obligations.WordsOfTheSpecDecode : Prop :=
  decode 0b0000000100000000#16 = .command .constructP01 ∧
  decode 0b0001010000000000#16 = .command .initTableP04 ∧
  decode 0b0010010111111111#16 = .command (.tableReadP05 0xFF) ∧
  decode 0b0011000100110001#16 = .command (.crcStepP01 0x31) ∧
  decode 0b0100010000000101#16 = .command (.computeCrcP04 0x05) ∧
  decode 0b0101010100000000#16 = .command .tryProtectP05 ∧
  decode 0b0110000100000000#16 = .command .tryForwardP01 ∧
  decode 0b0111010000000000#16 = .command .checkP04 ∧
  decode 0b1000000100000000#16 = .illegal .opcode ∧
  decode 0b0000101100000001#16 = .illegal .profile ∧
  decode 0b0101000100000001#16 = .illegal .arg

/-! ## The step -/

/-- When the next event lets agent a through, whose oldest command c has a word that decodes to i,
the step is exec of i on the state with c in the port, c taken out of a's queue and the event
consumed. (The agents' queues and the event list are the model's own: log 1, log 10.) -/
def Obligations.StepRunsTheDecodedCommand : Prop :=
  ∀ (s : State) (a : Nat) (es : List Event) (c : Command) (q : List Command) (i : Instr),
    s.events = .grant a :: es → s.agents[a]? = some (c :: q) → decode c.word = .command i →
    step s = exec i { s with port := c, agents := s.agents.set a q, events := es }

/-- 60_exceptions.md R310, R311 and 30_encoding.md R96: no step faults or is refused, every command
in every state completes with a response, and a step changes neither the parameters nor the number
of slots. -/
def Obligations.EveryStepCompletes : Prop :=
  (∀ s : State, ∃ t, step s = .next t ∧ t.cfg = s.cfg ∧ t.slots.length = s.slots.length) ∧
  (∀ (i : Instr) (s : State), ∃ t r, exec i s = .next t ∧ t.resp = some r)

/-- 20_memory.md R74: over any number of steps without a power-on reset, the block and the host's
buffers end as in some total order of commands run one whole command at a time, in which every
agent's commands come in the order it issued them, none left out. (The agents' queues and the event
list are the model's own: log 1, log 10; that a power-on reset is an event: log 9.) -/
def Obligations.InterleavingsAreSerial : Prop :=
  ∀ (n : Nat) (s t : State), steps n s = some t → (∀ e ∈ s.events.take n, e ≠ .powerOn) →
    ∃ order : List (Nat × Command),
      (∀ a : Nat, (order.filter (fun x => x.1 = a)).map Prod.snd ++ t.agents.getD a [] =
        s.agents.getD a []) ∧
      (∀ u : State, u = serialRun (order.map Prod.snd) s →
        t.t01 = u.t01 ∧ t.t04 = u.t04 ∧ t.t05 = u.t05 ∧ t.slots = u.slots ∧
        t.resp = u.resp ∧ t.buffers = u.buffers ∧ t.cfg = u.cfg)

/-! ## Reset and invariants -/

/-- 70_reset_and_hazards.md R330: after power-on reset, and after a power-on event in any state,
every slot is NONE and every table has VALID = 0; no command is needed before the block accepts
one. -/
def Obligations.PowerOnLeavesEveryThingUnbuilt : Prop :=
  (State.reset.t01.valid = false ∧ State.reset.t04.valid = false ∧
    State.reset.t05.valid = false ∧ State.reset.slots.length = 8 ∧
    ∀ sl ∈ State.reset.slots, sl.type = .unconstructed) ∧
  (∀ (s : State) (es : List Event), s.events = .powerOn :: es →
    ∃ t, step s = .next t ∧ t.t01.valid = false ∧ t.t04.valid = false ∧ t.t05.valid = false ∧
      t.slots.length = s.slots.length ∧ (∀ sl ∈ t.slots, sl.type = .unconstructed) ∧
      t.cfg = s.cfg ∧ t.buffers = s.buffers ∧ t.agents = s.agents ∧ t.events = es)

/-- The invariant holds after reset. -/
def Obligations.ResetMeetsTheInvariant : Prop := State.reset.Inv

/-- 10_state.md R32: in every state that meets the invariant (a table with VALID = 1 is the built
one; the parameters are within R6; the host's buffers have their canonical form), a step gives a
state that meets it. -/
def Obligations.EveryStepKeepsTheInvariant : Prop :=
  ∀ s t : State, s.Inv → step s = .next t → t.Inv

/-- R32: VALID goes from 0 to 1 only with the built table in place, and from 1 to 0 only by
power-on reset. -/
def Obligations.ValidRisesOnceAndOnlyBuilt : Prop :=
  ∀ (s t : State) (p : Profile), step s = .next t →
    (s.tableValid p = false → t.tableValid p = true → t.tableBuilt p) ∧
    (s.tableValid p = true → t.tableValid p = false → s.events.head? = some .powerOn)

/-- R43: a constructed slot goes back to UNCONSTRUCTED only by power-on reset. -/
def Obligations.SlotsAreUnmadeOnlyByPowerOn : Prop :=
  ∀ (s t : State) (k : Nat) (sl tl : Slot), step s = .next t →
    s.slots[k]? = some sl → t.slots[k]? = some tl → sl.type ≠ .unconstructed →
    tl.type = .unconstructed → s.events.head? = some .powerOn

/-- R33 and R45: two states that differ only in whether tables are built and in the unspecified
fields of UNCONSTRUCTED slots step to states that differ only so; their responses and buffers stay
equal. So no response or output depends on those power-on values. -/
def Obligations.UnspecifiedStateIsNeverObserved : Prop :=
  ∀ s t s' : State, s.tablesOk → t.tablesOk → s.observablySame t → step s = .next s' →
    ∃ t', step t = .next t' ∧ s'.observablySame t' ∧ s'.tablesOk ∧ t'.tablesOk

/-! ## Admission and responses -/

/-- 60_exceptions.md R301, R300: the slot tests of admission in their order. Each rejection is the
response (code, RES = 0) and no other change. -/
def Obligations.AdmissionRejectsInOrder : Prop :=
  ∀ (i : Instr) (s : State),
    (i.op ∈ [.construct, .computeCrc, .tryProtect, .tryForward, .check] →
      s.slots.length ≤ s.port.inst → exec i s = .next { s with resp := some ⟨.rejInstance, 0⟩ }) ∧
    (i.op ∈ [.computeCrc, .tryProtect, .tryForward, .check] →
      (∀ sl, s.addressed = some sl → sl.type = .unconstructed →
        exec i s = .next { s with resp := some ⟨.rejUnconstructed, 0⟩ }) ∧
      (∀ sl q, s.addressed = some sl → sl.type = .active q → q ≠ i.profile →
        exec i s = .next { s with resp := some ⟨.rejMismatch, 0⟩ }) ∧
      (∀ sl m, s.addressed = some sl → sl.type = .active i.profile →
        s.cfg.maxFrameLen = some m → m < s.input.length →
        exec i s = .next { s with resp := some ⟨.rejLength, 0⟩ })) ∧
    (i.op ∈ [.tryProtect, .tryForward] →
      ∀ sl m, s.addressed = some sl → sl.type = .active i.profile →
        s.cfg.maxFrameLen = some m → m < headerLen i.profile + s.input.length →
        exec i s = .next { s with resp := some ⟨.rejLength, 0⟩ })

/-- 60_exceptions.md R300: a command answered with a rejection, whether by the decoder or by
admission, changes nothing but the response, which has a code of 0x80 to 0x86 and RES = 0. -/
def Obligations.RejectedCommandsWriteNothing : Prop :=
  ∀ (s t : State) (r : Response), runPort s = .next t → t.resp = some r →
    0x80 ≤ r.status.code.toNat →
    r.status.code.toNat ≤ 0x86 ∧ t = { s with resp := some ⟨r.status, 0⟩ }

/-- 30_encoding.md R97: the STATUS values, their numbers' bits, and which commands return which. -/
def Obligations.StatusesByCommand : Prop :=
  ([.done, .frameTrue, .inputFalse, .kOk, .kRepeated, .kWrongSequence, .kWrongCrc, .kNoNewData,
    .rejOpcode, .rejProfile, .rejArg, .rejInstance, .rejUnconstructed, .rejMismatch,
    .rejLength].map Status.code =
    [0x00, 0x01, 0x02, 0x10, 0x11, 0x12, 0x13, 0x14, 0x80, 0x81, 0x82, 0x83, 0x84, 0x85,
      0x86]) ∧
  (∀ st : Status, st.code.getLsbD 7 = st.isRejection) ∧
  (∀ st : Status, st.code.getLsbD 4 = true ↔
    st ∈ [.kOk, .kRepeated, .kWrongSequence, .kWrongCrc, .kNoNewData]) ∧
  (∀ st st' : Status, st.code = st'.code → st = st') ∧
  (∀ (i : Instr) (s t : State) (r : Response), exec i s = .next t → t.resp = some r →
    (r.status = .done → i.op ∈ [.construct, .initTable, .tableRead, .crcStep, .computeCrc]) ∧
    (r.status ∈ [.frameTrue, .inputFalse] → i.op ∈ [.tryProtect, .tryForward]) ∧
    (r.status ∈ [.kOk, .kRepeated, .kWrongSequence, .kWrongCrc, .kNoNewData] → i.op = .check) ∧
    (r.status ≠ .rejOpcode ∧ r.status ≠ .rejProfile ∧ r.status ≠ .rejArg) ∧
    (r.status = .rejInstance → i.op ∈ [.construct, .computeCrc, .tryProtect, .tryForward, .check]) ∧
    (r.status ∈ [.rejUnconstructed, .rejMismatch, .rejLength] →
      i.op ∈ [.computeCrc, .tryProtect, .tryForward, .check]))

/-- 30_encoding.md R98, 60_exceptions.md R305: RES is 0 but for TABLE_READ, CRC_STEP and
COMPUTE_CRC answered DONE. -/
def Obligations.ResIsZeroElsewhere : Prop :=
  ∀ (i : Instr) (s t : State) (r : Response), exec i s = .next t → t.resp = some r →
    r.res ≠ 0 → r.status = .done ∧ i.op ∈ [.tableRead, .crcStep, .computeCrc]

/-! ## Who writes what -/

/-- 10_state.md R35: TYPE, DATA_ID and MAX_DELTA of a slot change only by CONSTRUCT on it. -/
def Obligations.ConfigurationIsWrittenByConstructOnly : Prop :=
  ∀ (i : Instr) (s t : State) (k : Nat) (sl : Slot), exec i s = .next t → s.slots[k]? = some sl →
    ∃ tl, t.slots[k]? = some tl ∧
      (i.op ≠ .construct ∨ k ≠ s.port.inst →
        tl.type = sl.type ∧ tl.dataId = sl.dataId ∧ tl.maxDelta = sl.maxDelta)

/-- 10_state.md R37, R39: PCNT of a slot is unchanged but by the three commands of R37 on that
slot; CONSTRUCT answered DONE, and the TRY commands answered TRUE (non-empty input), give it the
value R37 states. -/
def Obligations.ProtectingCounterWriters : Prop :=
  ∀ (i : Instr) (s t : State) (k : Nat) (sl : Slot), exec i s = .next t → s.slots[k]? = some sl →
    ∃ tl, t.slots[k]? = some tl ∧
      (tl.pcnt = sl.pcnt ∨
        k = s.port.inst ∧
          (i.op = .construct ∧ tl.pcnt = 0 ∨
           i.op = .tryProtect ∧ s.input ≠ [] ∧ tl.pcnt = counterInc sl.pcnt (cmax i.profile) ∨
           i.op = .tryForward ∧ s.input ≠ [] ∧ tl.pcnt = sl.ccnt)) ∧
      (k = s.port.inst → ∀ r, t.resp = some r →
        (i.op = .construct → r.status = .done → tl.pcnt = 0) ∧
        (i.op = .tryProtect → r.status = .frameTrue →
          tl.pcnt = counterInc sl.pcnt (cmax i.profile)) ∧
        (i.op = .tryForward → r.status = .frameTrue → tl.pcnt = sl.ccnt))

/-- 10_state.md R38, R39: CCNT of a slot is unchanged but by CONSTRUCT and CHECK on that slot;
CHECK sets it to the received counter in every outcome except kNoNewData. -/
def Obligations.CheckingCounterWriters : Prop :=
  ∀ (i : Instr) (s t : State) (k : Nat) (sl : Slot), exec i s = .next t → s.slots[k]? = some sl →
    ∃ tl, t.slots[k]? = some tl ∧
      (tl.ccnt = sl.ccnt ∨
        k = s.port.inst ∧
          (i.op = .construct ∧ tl.ccnt = 0 ∨
           i.op = .check ∧ tl.ccnt = frameCounter i.profile s.input)) ∧
      (i.op = .construct → k = s.port.inst →
        ∀ r, t.resp = some r → r.status = .done → tl.ccnt = 0) ∧
      (i.op = .check → k = s.port.inst →
        ∀ r, t.resp = some r → r.status.isRejection = false → r.status ≠ .kNoNewData →
          tl.ccnt = frameCounter i.profile s.input)

/-- 20_memory.md R63, R64, R65: a command touches a host buffer only if it answers TRUE; then it is
a TRY command and the only buffer touched is OUT's. IN given as bytes never changes. -/
def Obligations.OnlyEmittedFramesTouchBuffers : Prop :=
  ∀ (i : Instr) (s t : State) (r : Response), exec i s = .next t → t.resp = some r →
    (r.status ≠ .frameTrue → t.buffers = s.buffers) ∧
    (r.status = .frameTrue → i.op ∈ [.tryProtect, .tryForward]) ∧
    keepsOtherBuffers s.port.out s t ∧ KeepsPort s t

/-- 10_state.md R41: a command touches no table but its own profile's, no slot but the addressed
one, and INIT_TABLE, TABLE_READ, CRC_STEP and COMPUTE_CRC touch no slot at all; CONSTRUCT touches
no table. -/
def Obligations.CommandsTouchTheirOwnUnitsOnly : Prop :=
  ∀ (i : Instr) (s t : State), exec i s = .next t →
    keepsOtherTables i.profile s t ∧ keepsOtherSlots s.port.inst s t ∧
    (i.op ∈ [.initTable, .tableRead, .crcStep, .computeCrc] → t.slots = s.slots) ∧
    (i.op = .construct → keepsTables s t)

/-! ## The table commands -/

/-- 40_crc_table.md R136, R137, R138, R134: INIT_TABLE builds its profile's table, answers (DONE,
0), touches nothing else, and a second one changes nothing. -/
def Obligations.InitTableBuilds : Prop :=
  ∀ (i : Instr) (s : State), i.op = .initTable → s.tablesOk →
    ∃ t, exec i s = .next t ∧ t.tableBuilt i.profile ∧ keepsOtherTables i.profile s t ∧
      KeepsPort s t ∧ t.slots = s.slots ∧ t.buffers = s.buffers ∧
      t.resp = some ⟨.done, 0⟩ ∧ exec i t = .next t

/-- 40_crc_table.md R140, R141, R142: TABLE_READ answers DONE with the addressed entry of its
profile's built table, zero-extended, whether or not the table was built before, and leaves it
built; it touches nothing else. -/
def Obligations.TableReadReturnsTheEntry : Prop :=
  ∀ (s : State) (x : Byte), s.tablesOk →
    (∃ t, exec (.tableReadP01 x) s = .next t ∧
      t.resp = some ⟨.done, (buildEntry s.cfg.poly8 false x).setWidth 32⟩ ∧
      t = { s with t01 := ⟨T01 s.cfg, true⟩, resp := t.resp }) ∧
    (∃ t, exec (.tableReadP04 x) s = .next t ∧
      t.resp = some ⟨.done, buildEntry s.cfg.poly32 true x⟩ ∧
      t = { s with t04 := ⟨T04 s.cfg, true⟩, resp := t.resp }) ∧
    (∃ t, exec (.tableReadP05 x) s = .next t ∧
      t.resp = some ⟨.done, (buildEntry s.cfg.poly16 true x).setWidth 32⟩ ∧
      t = { s with t05 := ⟨T05 s.cfg, true⟩, resp := t.resp })

/-- 41_crc_datapaths.md R151, R152, R153 with R162, R163, R164: CRC_STEP answers DONE with one step
of its profile's CRC from `OPA[W-1:0]` by the byte ARG8; OPA's other bits are ignored; it leaves the
table built and touches nothing else. -/
def Obligations.CrcStepAdvancesTheRegister : Prop :=
  ∀ (s : State) (b : Byte), s.tablesOk →
    (∃ t, exec (.crcStepP01 b) s = .next t ∧
      t.resp = some ⟨.done, (entry (T01 s.cfg) (s.port.opa.setWidth 8 ^^^ b)).setWidth 32⟩ ∧
      t = { s with t01 := ⟨T01 s.cfg, true⟩, resp := t.resp }) ∧
    (∃ t, exec (.crcStepP04 b) s = .next t ∧
      t.resp = some ⟨.done,
        (s.port.opa >>> 8) ^^^ entry (T04 s.cfg) (s.port.opa.setWidth 8 ^^^ b)⟩ ∧
      t = { s with t04 := ⟨T04 s.cfg, true⟩, resp := t.resp }) ∧
    (∃ t, exec (.crcStepP05 b) s = .next t ∧
      t.resp = some ⟨.done,
        ((s.port.opa.setWidth 16 >>> 8) ^^^
          entry (T05 s.cfg) (s.port.opa.setWidth 8 ^^^ b)).setWidth 32⟩ ∧
      t = { s with t05 := ⟨T05 s.cfg, true⟩, resp := t.resp })

/-- 40_crc_table.md R133: every built table, of either kind and any width, is linear over XOR and
its entry 0 is 0; entry 1 of the MSB-first 8-bit table is the polynomial; entry 0x80 of an LSB-first
table is the reflected polynomial; the values at the default polynomials. -/
def Obligations.TablesAreLinear : Prop :=
  (∀ (w : Nat) (poly : BitVec w) (refl : Bool),
    entry (buildTable poly refl) 0 = 0 ∧
    ∀ a b : Byte, entry (buildTable poly refl) (a ^^^ b) =
      entry (buildTable poly refl) a ^^^ entry (buildTable poly refl) b) ∧
  (∀ poly : BitVec 8, entry (buildTable poly false) 0x01 = poly) ∧
  (∀ poly : BitVec 8, entry (buildTable poly true) 0x80 = reflect poly) ∧
  (∀ poly : BitVec 16, entry (buildTable poly true) 0x80 = reflect poly) ∧
  (∀ poly : BitVec 32, entry (buildTable poly true) 0x80 = reflect poly) ∧
  entry (T01 recommendedConfig) 0x01 = 0x1D ∧
  entry (T04 recommendedConfig) 0x80 = 0xC8DF352F ∧
  entry (T05 recommendedConfig) 0x80 = 0xA001

/-- 40_crc_table.md R130: bit W-1-i of the reflection is bit i; reflecting twice gives the value
back; the three values the rule names. -/
def Obligations.ReflectReversesTheBits : Prop :=
  (∀ (w : Nat) (v : BitVec w) (i : Nat), i < w →
    (reflect v).getLsbD (w - 1 - i) = v.getLsbD i) ∧
  (∀ (w : Nat) (v : BitVec w), reflect (reflect v) = v) ∧
  reflect 0x1D#8 = 0xB8#8 ∧ reflect 0x8005#16 = 0xA001#16 ∧
  reflect 0xF4ACFB13#32 = 0xC8DF352F#32

/-- 41_crc_datapaths.md R154: the table-driven step of each profile equals the bitwise shift
register, for every polynomial, register and byte. -/
def Obligations.TableStepIsTheBitwiseStep : Prop :=
  (∀ (poly c : BitVec 8) (b : Byte),
    crcStep false (buildTable poly false) c b = bitStep poly false c b) ∧
  (∀ (poly c : BitVec 32) (b : Byte),
    crcStep true (buildTable poly true) c b = bitStep poly true c b) ∧
  (∀ (poly c : BitVec 16) (b : Byte),
    crcStep true (buildTable poly true) c b = bitStep poly true c b)

/-- 41_crc_datapaths.md R160: the check values of "123456789" at the default parameters. -/
def Obligations.CatalogueCheckValues : Prop :=
  let msg : List Byte := [0x31, 0x32, 0x33, 0x34, 0x35, 0x36, 0x37, 0x38, 0x39]
  crcRun false (T01 recommendedConfig) 0xFF msg ^^^ 0xFF = 0x4B ∧
  crcRun true (T04 recommendedConfig) 0xFFFFFFFF msg ^^^ 0xFFFFFFFF = 0x1697D06A ∧
  crcRun true (T05 recommendedConfig) 0xFFFF msg = 0x4B37

/-! ## The slot commands -/

/-- 43_profile01.md R205, 44_profile04.md R235, 45_profile05.md R265: CONSTRUCT on any slot of any
TYPE makes it ACTIVE with the profile, the dataId and the maximum delta of OPA, and both counters 0;
it answers (DONE, 0) and touches nothing else. -/
def Obligations.ConstructMakesTheSlot : Prop :=
  ∀ (i : Instr) (s : State), i.op = .construct → s.port.inst < s.slots.length →
    exec i s = .next { s with
      slots := s.slots.set s.port.inst
        { type := .active i.profile
          dataId := s.port.opa.setWidth 16
          maxDelta := (s.port.opa >>> 16).setWidth 8
          pcnt := 0
          ccnt := 0 }
      resp := some ⟨.done, 0⟩ }

/-- 41_crc_datapaths.md R166, R167, R168: COMPUTE_CRC answers DONE with the profile's CRC of ARG8
and IN under the slot's DataID; it leaves the table built and touches nothing else. -/
def Obligations.ComputeCrcReturnsTheCrc : Prop :=
  ∀ (i : Instr) (s : State) (sl : Slot), i.op = .computeCrc → s.tablesOk → s.admits i.profile sl →
    ∃ t, exec i s = .next t ∧
      t.resp = some ⟨.done, crcOf s.cfg i.profile sl.dataId i.arg8 s.input⟩ ∧
      t.tableBuilt i.profile ∧ keepsOtherTables i.profile s t ∧ KeepsPort s t ∧
      t.slots = s.slots ∧ t.buffers = s.buffers

/-- 43_profile01.md R206, 44_profile04.md R236, 45_profile05.md R266, on non-empty input:
TRY_PROTECT answers (TRUE, 0), increments PCNT with the wrap at CMAX, and makes OUT the frame that
carries the new counter around IN as it was; no other field, slot, buffer or table changes. -/
def Obligations.TryProtectEmitsTheNextFrame : Prop :=
  ∀ (i : Instr) (s : State) (sl : Slot), i.op = .tryProtect → s.tablesOk →
    s.admitsOutput i.profile sl → s.input ≠ [] →
    ∃ t c, exec i s = .next t ∧
      c = (if sl.pcnt = cmax i.profile then 0 else sl.pcnt + 1) ∧
      t.resp = some ⟨.frameTrue, 0⟩ ∧
      t.slots = s.slots.set s.port.inst { sl with pcnt := c } ∧
      t.buffers.read s.port.out = frameOf s.cfg i.profile sl.dataId c s.input ∧
      keepsOtherBuffers s.port.out s t ∧ t.tableBuilt i.profile ∧
      keepsOtherTables i.profile s t ∧ KeepsPort s t

/-- 43_profile01.md R207, 44_profile04.md R237, 45_profile05.md R267, on non-empty input:
TRY_FORWARD answers (TRUE, 0), sets PCNT to CCNT, and makes OUT the frame that carries CCNT around
IN as it was; no other field, slot, buffer or table changes. -/
def Obligations.TryForwardEmitsTheCheckedCounter : Prop :=
  ∀ (i : Instr) (s : State) (sl : Slot), i.op = .tryForward → s.tablesOk →
    s.admitsOutput i.profile sl → s.input ≠ [] →
    ∃ t, exec i s = .next t ∧
      t.resp = some ⟨.frameTrue, 0⟩ ∧
      t.slots = s.slots.set s.port.inst { sl with pcnt := sl.ccnt } ∧
      t.buffers.read s.port.out = frameOf s.cfg i.profile sl.dataId sl.ccnt s.input ∧
      keepsOtherBuffers s.port.out s t ∧ t.tableBuilt i.profile ∧
      keepsOtherTables i.profile s t ∧ KeepsPort s t

/-- 60_exceptions.md R303: TRY_PROTECT and TRY_FORWARD given empty input answer (FALSE, 0) and
change nothing else: PCNT is neither incremented nor synced, and OUT is untouched. -/
def Obligations.EmptyInputIsFalse : Prop :=
  ∀ (i : Instr) (s : State) (sl : Slot), i.op ∈ [.tryProtect, .tryForward] →
    s.admitsOutput i.profile sl → s.input = [] →
    exec i s = .next { s with resp := some ⟨.inputFalse, 0⟩ }

/-- 30_encoding.md R105, 43_profile01.md R209 and its like: CHECK of a buffer shorter than the
header and one payload byte answers kNoNewData and changes nothing else, whatever the bytes. -/
def Obligations.ShortBuffersAreNoNewData : Prop :=
  ∀ (i : Instr) (s : State) (sl : Slot), i.op = .check → s.admits i.profile sl →
    s.input.length < headerLen i.profile + 1 →
    exec i s = .next { s with resp := some ⟨.kNoNewData, 0⟩ }

/-- 43_profile01.md R209, 44_profile04.md R239, 45_profile05.md R269, with the order of
42_counter_sequence.md R186 and the classification R184: CHECK of a long enough buffer answers the
outcome of the CRC comparison and the counters, sets CCNT to the received counter whatever the
outcome, leaves the table built, and touches nothing else. -/
def Obligations.CheckClassifiesTheFrame : Prop :=
  ∀ (i : Instr) (s : State) (sl : Slot), i.op = .check → s.tablesOk → s.admits i.profile sl →
    headerLen i.profile + 1 ≤ s.input.length →
    ∃ t st, exec i s = .next t ∧
      t.resp = some ⟨st, 0⟩ ∧
      CheckOutcome (crcOk s.cfg i.profile sl.dataId s.input)
        (frameCounter i.profile s.input) sl.ccnt sl.maxDelta st ∧
      t.slots = s.slots.set s.port.inst { sl with ccnt := frameCounter i.profile s.input } ∧
      t.tableBuilt i.profile ∧ keepsOtherTables i.profile s t ∧ KeepsPort s t ∧
      t.buffers = s.buffers

/-- 42_counter_sequence.md R187: CHECK keeps no other history: two states with the same parameters
whose addressed slots agree in TYPE, DATA_ID, MAX_DELTA and CCNT, given the same IN, answer the same
and end with the same CCNT. -/
def Obligations.CheckDependsOnBaselineOnly : Prop :=
  ∀ (i : Instr) (s t s' t' : State) (sl tl : Slot), i.op = .check → s.tablesOk → t.tablesOk →
    s.cfg = t.cfg → s.addressed = some sl → t.addressed = some tl → sl.type = tl.type →
    sl.dataId = tl.dataId → sl.maxDelta = tl.maxDelta → sl.ccnt = tl.ccnt → s.input = t.input →
    exec i s = .next s' → exec i t = .next t' →
    s'.resp = t'.resp ∧
    ∃ sl' tl', s'.slots[s.port.inst]? = some sl' ∧ t'.slots[t.port.inst]? = some tl' ∧
      sl'.ccnt = tl'.ccnt

/-! ## Counters and bytes -/

/-- 42_counter_sequence.md R183, R184: the signed-byte difference of two counters is their plain
difference, and its classification against the maximum delta. -/
def Obligations.DeltaIsThePlainDifference : Prop :=
  (∀ recv base : Nibble, delta recv base = (recv.toNat : Int) - (base.toNat : Int)) ∧
  (∀ recv base : Nibble, ∀ m : Byte,
    CheckOutcome True recv base m (classify (delta recv base) m))

/-- 42_counter_sequence.md R181: on an active slot with PCNT = 0, n TRY_PROTECT commands with the
same non-empty bytes leave PCNT = n mod (CMAX(P) + 1), which is the counter of the last frame
emitted: the counters emitted are 1, 2, ..., CMAX(P), 0, 1, ... -/
def Obligations.ProtectCountersWrapAtTheMaximum : Prop :=
  ∀ (i : Instr) (s : State) (sl : Slot) (bs : List Byte) (n : Nat), i.op = .tryProtect →
    s.port.input = .bytes bs → bs ≠ [] → s.admitsOutput i.profile sl → sl.pcnt = 0 →
    ∃ t tl, repeated i n s = some t ∧ t.addressed = some tl ∧
      tl.pcnt.toNat = n % ((cmax i.profile).toNat + 1) ∧
      (0 < n → frameCounter i.profile (t.buffers.read s.port.out) = tl.pcnt)

/-- 42_counter_sequence.md R182: a PCNT above CMAX(P) on a slot is 15, on a profile-01 or profile-04
slot, and comes only from TRY_FORWARD copying a checked counter of 15; the increment from 15 with
CMAX = 14 gives 0. -/
def Obligations.CountersAboveMaximumComeFromForwarding : Prop :=
  counterInc 15 14 = 0 ∧
  ∀ (i : Instr) (s t : State) (k : Nat) (sl tl : Slot) (p : Profile), exec i s = .next t →
    s.slots[k]? = some sl → t.slots[k]? = some tl → tl.type = .active p →
    (cmax p).toNat < tl.pcnt.toNat →
    p ≠ .p05 ∧ tl.pcnt = 15 ∧
      ((sl.type = .active p ∧ tl.pcnt = sl.pcnt) ∨
        (i.op = .tryForward ∧ i.profile = p ∧ k = s.port.inst ∧ sl.ccnt = 15))

/-- 00_scope.md R10, 20_memory.md R67: reading back little-endian bytes gives the value, so the CRC
field of a frame is read as it was written. -/
def Obligations.LittleEndianRoundTrip : Prop :=
  (∀ v : BitVec 16, fromLE 16 (le16 v) = v) ∧ (∀ v : BitVec 32, fromLE 32 (le32 v) = v) ∧
  (∀ a b : Byte, le16 (fromLE 16 [a, b]) = [a, b]) ∧
  (∀ a b c d : Byte, le32 (fromLE 32 [a, b, c, d]) = [a, b, c, d])

/-- 20_memory.md R63: what is written to a host buffer is what it then holds, whole, and no other
buffer changes; the canonical form is kept. (The store of host buffers is the model's own: log 2.) -/
def Obligations.BufferWritesAreReadBack : Prop :=
  ∀ (m : Buffers) (b : Nat) (v : List Byte), m.wf = true →
    (m.write b v).read b = v ∧ (∀ a, a ≠ b → (m.write b v).read a = m.read a) ∧
    (m.write b v).wf = true

/-! ## Protection end to end -/

/-- A frame that TRY_PROTECT or TRY_FORWARD emits, checked right after by any slot of the same
profile and DataID (the emitting slot itself or another), from the buffer it was written to, is
never kWrongCrc: the outcome is decided by the emitted counter c and the receiver's baseline, which
becomes c. -/
def Obligations.EmittedFramesPassTheCheck : Prop :=
  ∀ (e k : Instr) (s t : State) (sl rl : Slot) (cmd : Command),
    e.op ∈ [.tryProtect, .tryForward] → k.op = .check → k.profile = e.profile →
    s.tablesOk → s.admitsOutput e.profile sl → s.input ≠ [] → exec e s = .next t →
    cmd.input = .buffer s.port.out → t.slots[cmd.inst]? = some rl →
    rl.type = .active e.profile → rl.dataId = sl.dataId →
    ∃ c u st,
      c = (if e.op = .tryProtect then counterInc sl.pcnt (cmax e.profile) else sl.ccnt) ∧
      exec k { t with port := cmd } = .next u ∧ u.resp = some ⟨st, 0⟩ ∧
      CheckOutcome True c rl.ccnt rl.maxDelta st ∧
      u.slots = t.slots.set cmd.inst { rl with ccnt := c }

/-- 70_reset_and_hazards.md R333: sender and receiver slots freshly constructed with the same
profile and DataID and a maximum delta of at least 1: the first frame, protected and then checked,
is kOk, and the receiver's CCNT becomes 1. -/
def Obligations.FirstExchangeIsOk : Prop :=
  ∀ (e k : Instr) (s : State) (sl rl : Slot) (cmd : Command),
    e.op = .tryProtect → k.op = .check → k.profile = e.profile →
    s.tablesOk → s.admitsOutput e.profile sl → s.input ≠ [] →
    cmd.inst ≠ s.port.inst → s.slots[cmd.inst]? = some rl → rl.type = .active e.profile →
    rl.dataId = sl.dataId → sl.pcnt = 0 → rl.ccnt = 0 → 1 ≤ rl.maxDelta.toNat →
    cmd.input = .buffer s.port.out →
    ∃ t u, exec e s = .next t ∧ exec k { t with port := cmd } = .next u ∧
      u.resp = some ⟨.kOk, 0⟩ ∧ u.slots[cmd.inst]? = some { rl with ccnt := 1 }

/-- 43_profile01.md R208, 44_profile04.md R238, 45_profile05.md R268: after a CHECK on a slot reads
counter K (in any outcome but kNoNewData), a TRY_FORWARD on it emits a frame whose counter is K, and
a TRY_PROTECT after it emits CounterInc(K, CMAX(P)): 0 for K = CMAX(P), else K + 1. -/
def Obligations.ForwardingResynchronises : Prop :=
  ∀ (k f e : Instr) (s t : State) (sl : Slot) (st : Status) (c2 c3 : Command) (b2 b3 : List Byte),
    k.op = .check → f.op = .tryForward → e.op = .tryProtect →
    f.profile = k.profile → e.profile = k.profile →
    s.tablesOk → s.admits k.profile sl → exec k s = .next t → t.resp = some ⟨st, 0⟩ →
    st ≠ .kNoNewData →
    c2.inst = s.port.inst → c2.input = .bytes b2 → b2 ≠ [] →
    tooLong s.cfg.maxFrameLen (headerLen k.profile + b2.length) = false →
    c3.inst = s.port.inst → c3.input = .bytes b3 → b3 ≠ [] →
    tooLong s.cfg.maxFrameLen (headerLen k.profile + b3.length) = false →
    ∃ u v, exec f { t with port := c2 } = .next u ∧ exec e { u with port := c3 } = .next v ∧
      u.buffers.read c2.out =
        frameOf s.cfg k.profile sl.dataId (frameCounter k.profile s.input) b2 ∧
      v.buffers.read c3.out =
        frameOf s.cfg k.profile sl.dataId
          (if frameCounter k.profile s.input = cmax k.profile then 0
            else frameCounter k.profile s.input + 1) b3

/-- 43_profile01.md R202, 44_profile04.md R232, 45_profile05.md R262: if a frame's CRC is right and
one byte of it, whichever, is given another value, CHECK answers kWrongCrc. Premise: the
polynomial's constant term is 1, as for the default polynomials (93_implementation_defined.md I5). -/
def Obligations.SingleByteTamperingIsCaught : Prop :=
  ∀ (i : Instr) (s : State) (sl : Slot) (fr : List Byte) (j : Nat) (v : Byte), i.op = .check →
    polyOdd s.cfg i.profile → s.tablesOk → s.admits i.profile sl →
    headerLen i.profile + 1 ≤ fr.length → crcOk s.cfg i.profile sl.dataId fr →
    j < fr.length → v ≠ fr.getD j 0 → s.input = fr.set j v →
    ∃ t, exec i s = .next t ∧ t.resp = some ⟨.kWrongCrc, 0⟩ ∧
      t.slots = s.slots.set s.port.inst { sl with ccnt := frameCounter i.profile (fr.set j v) }

/-- 70_reset_and_hazards.md R342, 42_counter_sequence.md R185: when a sender's counter wraps, the
receiver, at baseline CMAX(P), answers kWrongSequence to the frame with counter 0 whatever its
maximum delta, and takes 0 as its baseline; the following good frame, counter 1, is kOk for a
maximum delta of at least 1. -/
def Obligations.CounterWrapIsOneWrongSequence : Prop :=
  ∀ (i : Instr) (s : State) (sl : Slot) (cmd : Command) (fr : List Byte), i.op = .check →
    s.tablesOk → s.admits i.profile sl → headerLen i.profile + 1 ≤ s.input.length →
    crcOk s.cfg i.profile sl.dataId s.input → sl.ccnt = cmax i.profile →
    frameCounter i.profile s.input = 0 →
    cmd.inst = s.port.inst → cmd.input = .bytes fr → headerLen i.profile + 1 ≤ fr.length →
    tooLong s.cfg.maxFrameLen fr.length = false → crcOk s.cfg i.profile sl.dataId fr →
    frameCounter i.profile fr = 1 →
    ∃ t u, exec i s = .next t ∧ t.resp = some ⟨.kWrongSequence, 0⟩ ∧
      t.slots = s.slots.set s.port.inst { sl with ccnt := 0 } ∧
      exec i { t with port := cmd } = .next u ∧
      (1 ≤ sl.maxDelta.toNat → u.resp = some ⟨.kOk, 0⟩) ∧
      (sl.maxDelta = 0 → u.resp = some ⟨.kWrongSequence, 0⟩)

/-- 10_state.md R39, 60_exceptions.md R316: two commands that address different slots and do not
hand bytes to each other (neither reads or writes the other's OUT) leave the same slots, buffers and
tables behind in either order. -/
def Obligations.CommandsOnDifferentSlotsCommute : Prop :=
  ∀ (i j : Instr) (s a b c d : State) (x y : Command) (bx bj : List Byte),
    x.inst ≠ y.inst → x.out ≠ y.out → x.input = .bytes bx → y.input = .bytes bj →
    s.buffers.wf = true →
    exec i { s with port := x } = .next a → exec j { a with port := y } = .next b →
    exec j { s with port := y } = .next c → exec i { c with port := x } = .next d →
    b.slots = d.slots ∧ b.buffers = d.buffers ∧ b.t01 = d.t01 ∧ b.t04 = d.t04 ∧ b.t05 = d.t05

/-! ## The host's assembler -/

/-- 30_encoding.md R106: each assembler line's word is its command's, and CONSTRUCT's OPA carries
the id and the maximum delta, 1 when `maxdelta=` is left out. -/
def Obligations.AssemblerLinesSetTheirFields : Prop :=
  (∀ (p : Profile) (k : Nat) (id : Half) (m : Byte),
    decode (Line.construct p k id (some m)).assemble.word = .command (.of .construct p 0) ∧
    (Line.construct p k id (some m)).assemble.inst = k ∧
    (Line.construct p k id (some m)).assemble.opa = 0x00#8 ++ m ++ id ∧
    (Line.construct p k id none).assemble = (Line.construct p k id (some 1)).assemble) ∧
  (∀ p : Profile, decode (Line.initTable p).assemble.word = .command (.of .initTable p 0)) ∧
  (∀ (p : Profile) (x : Byte),
    decode (Line.tableRead p x).assemble.word = .command (.of .tableRead p x)) ∧
  (∀ (p : Profile) (c : Word) (x : Byte),
    decode (Line.crcStep p c x).assemble.word = .command (.of .crcStep p x) ∧
    (Line.crcStep p c x).assemble.opa = c) ∧
  (∀ (p : Profile) (k : Nat) (x : Byte) (inp : InArg),
    decode (Line.computeCrc p k x inp).assemble.word = .command (.of .computeCrc p x) ∧
    (Line.computeCrc p k x inp).assemble.inst = k ∧
    (Line.computeCrc p k x inp).assemble.input = inp) ∧
  (∀ (p : Profile) (k : Nat) (inp : InArg) (o : Nat),
    decode (Line.tryProtect p k inp o).assemble.word = .command (.of .tryProtect p 0) ∧
    (Line.tryProtect p k inp o).assemble.inst = k ∧
    (Line.tryProtect p k inp o).assemble.input = inp ∧
    decode (Line.tryForward p k inp o).assemble.word = .command (.of .tryForward p 0) ∧
    (Line.tryForward p k inp o).assemble.inst = k ∧
    (Line.tryForward p k inp o).assemble.input = inp ∧
    decode (Line.check p k inp).assemble.word = .command (.of .check p 0) ∧
    (Line.check p k inp).assemble.inst = k ∧
    (Line.check p k inp).assemble.input = inp)

/-- 30_encoding.md R107 with 41_crc_datapaths.md R155: the pseudo-instruction CRC_BYTES yields
CrcRun over its bytes from its start value, and `<init>` for the empty list. -/
def Obligations.CrcBytesRunsTheWholeCrc : Prop :=
  ∀ (s : State) (c : Word) (bs : List Byte), s.tablesOk →
    (∀ p : Profile, (crcBytes p c [] s).1 = c) ∧
    (bs ≠ [] →
      (crcBytes .p01 c bs s).1 = (crcRun false (T01 s.cfg) (c.setWidth 8) bs).setWidth 32 ∧
      (crcBytes .p04 c bs s).1 = crcRun true (T04 s.cfg) c bs ∧
      (crcBytes .p05 c bs s).1 = (crcRun true (T05 s.cfg) (c.setWidth 16) bs).setWidth 32)
end

