-- ==== Sys2Proof/Laws/Buffers.lean ====
section
/-! SUPPORT. The host's buffers: what a write puts in is what a read gives back, other buffers are
untouched, and every operation keeps the canonical form. -/

namespace Sys2Proof.Machine

/-- Every listed number is above a. -/
theorem Buffers.wf_cons {a : Nat} {bs : List Byte} {m : Buffers}
    (h : Buffers.wf ((a, bs) :: m) = true) :
    bs ≠ [] ∧ Buffers.wf m = true ∧ ∀ x ∈ m, a < x.1 := by
  induction m generalizing a bs with
  | nil => simpa [Buffers.wf] using h
  | cons hd tl ih =>
    obtain ⟨c, cs⟩ := hd
    simp only [Buffers.wf, Bool.and_eq_true, decide_eq_true_eq, ne_eq] at h
    obtain ⟨⟨hb, hac⟩, hrest⟩ := h
    have hwf : Buffers.wf ((c, cs) :: tl) = true := by
      simpa [Buffers.wf] using hrest
    obtain ⟨-, -, hlow⟩ := ih hwf
    refine ⟨hb, hwf, ?_⟩
    intro x hx
    rcases List.mem_cons.1 hx with rfl | hx
    · exact hac
    · exact lt_trans hac (hlow x hx)

/-- A non-empty entry below a canonical list extends it. -/
theorem Buffers.wf_of_lt {a : Nat} {bs : List Byte} {m : Buffers} (hb : bs ≠ [])
    (hm : Buffers.wf m = true) (hlow : ∀ x ∈ m, a < x.1) : Buffers.wf ((a, bs) :: m) = true := by
  cases m with
  | nil => simp [Buffers.wf, hb]
  | cons hd tl =>
    obtain ⟨c, cs⟩ := hd
    have hac : a < c := hlow (c, cs) (by simp)
    simp only [Buffers.wf, hac, hb, ne_eq, not_false_eq_true, decide_true, Bool.true_and]
    simpa [Buffers.wf] using hm

theorem Buffers.read_insert (m : Buffers) (b : Nat) (v : List Byte) :
    Buffers.read (m.insert b v) b = v := by
  induction m with
  | nil => simp [Buffers.insert, Buffers.read]
  | cons hd tl ih =>
    obtain ⟨a, bs⟩ := hd
    simp only [Buffers.insert]
    split
    · simp [Buffers.read]
    · split
      · simp [Buffers.read]
      · rename_i h1 h2
        simp [Buffers.read, Ne.symm h2, ih]

theorem Buffers.read_insert_other (m : Buffers) {a b : Nat} (v : List Byte) (h : a ≠ b) :
    Buffers.read (m.insert b v) a = m.read a := by
  induction m with
  | nil => simp [Buffers.insert, Buffers.read, Ne.symm h]
  | cons hd tl ih =>
    obtain ⟨c, bs⟩ := hd
    simp only [Buffers.insert]
    split
    · simp [Buffers.read, Ne.symm h]
    · split
      · rename_i h1 h2
        subst h2
        simp [Buffers.read, Ne.symm h]
      · simp [Buffers.read, ih]

/-- A listed buffer that is not in the list reads as empty. -/
theorem Buffers.read_of_not_mem (m : Buffers) (b : Nat) (h : ∀ x ∈ m, x.1 ≠ b) :
    m.read b = [] := by
  induction m with
  | nil => rfl
  | cons hd tl ih =>
    obtain ⟨a, bs⟩ := hd
    simp only [Buffers.read]
    rw [if_neg (h (a, bs) (by simp))]
    exact ih fun x hx => h x (by simp [hx])

theorem Buffers.read_remove {m : Buffers} (b : Nat) (hm : m.wf = true) :
    Buffers.read (m.remove b) b = [] := by
  induction m with
  | nil => rfl
  | cons hd tl ih =>
    obtain ⟨a, bs⟩ := hd
    obtain ⟨-, htl, hlow⟩ := Buffers.wf_cons hm
    simp only [Buffers.remove]
    split
    · rename_i h
      subst h
      exact Buffers.read_of_not_mem tl a fun x hx => (hlow x hx).ne'
    · rename_i h
      simp [Buffers.read, h, ih htl]

theorem Buffers.read_remove_other (m : Buffers) {a b : Nat} (h : a ≠ b) :
    Buffers.read (m.remove b) a = m.read a := by
  induction m with
  | nil => rfl
  | cons hd tl ih =>
    obtain ⟨c, bs⟩ := hd
    simp only [Buffers.remove]
    split
    · rename_i hc
      subst hc
      simp [Buffers.read, Ne.symm h]
    · simp [Buffers.read, ih]

theorem Buffers.mem_insert {m : Buffers} {b : Nat} {v : List Byte} {x : Nat × List Byte}
    (h : x ∈ m.insert b v) : x = (b, v) ∨ x ∈ m := by
  induction m with
  | nil => simpa [Buffers.insert] using h
  | cons hd tl ih =>
    obtain ⟨a, bs⟩ := hd
    simp only [Buffers.insert] at h
    split at h
    · simpa using h
    · split at h
      · rcases List.mem_cons.1 h with h | h
        · exact .inl h
        · exact .inr (by simp [h])
      · rcases List.mem_cons.1 h with h | h
        · exact .inr (by simp [h])
        · rcases ih h with h | h
          · exact .inl h
          · exact .inr (by simp [h])

theorem Buffers.mem_remove {m : Buffers} {b : Nat} {x : Nat × List Byte}
    (h : x ∈ m.remove b) : x ∈ m := by
  induction m with
  | nil => simp [Buffers.remove] at h
  | cons hd tl ih =>
    obtain ⟨a, bs⟩ := hd
    simp only [Buffers.remove] at h
    split at h
    · simp [h]
    · rcases List.mem_cons.1 h with h | h
      · simp [h]
      · simp [ih h]

theorem Buffers.wf_insert {m : Buffers} (b : Nat) {v : List Byte} (hv : v ≠ [])
    (hm : m.wf = true) : Buffers.wf (m.insert b v) = true := by
  induction m with
  | nil => simp [Buffers.insert, Buffers.wf, hv]
  | cons hd tl ih =>
    obtain ⟨a, bs⟩ := hd
    obtain ⟨hbs, htl, hlow⟩ := Buffers.wf_cons hm
    simp only [Buffers.insert]
    split
    · rename_i hba
      refine Buffers.wf_of_lt hv hm ?_
      intro x hx
      rcases List.mem_cons.1 hx with rfl | hx
      · exact hba
      · exact lt_trans hba (hlow x hx)
    · split
      · rename_i h
        subst h
        exact Buffers.wf_of_lt hv htl hlow
      · rename_i h1 h2
        refine Buffers.wf_of_lt hbs (ih htl) ?_
        intro x hx
        rcases Buffers.mem_insert hx with rfl | hx
        · exact lt_of_le_of_ne (not_lt.1 h1) (Ne.symm h2)
        · exact hlow x hx

theorem Buffers.wf_remove {m : Buffers} (b : Nat) (hm : m.wf = true) :
    Buffers.wf (m.remove b) = true := by
  induction m with
  | nil => rfl
  | cons hd tl ih =>
    obtain ⟨a, bs⟩ := hd
    obtain ⟨hbs, htl, hlow⟩ := Buffers.wf_cons hm
    simp only [Buffers.remove]
    split
    · exact htl
    · exact Buffers.wf_of_lt hbs (ih htl) fun x hx => hlow x (Buffers.mem_remove hx)

/-- Every write keeps the canonical form. -/
theorem Buffers.wf_write {m : Buffers} (b : Nat) (v : List Byte) (hm : m.wf = true) :
    Buffers.wf (m.write b v) = true := by
  unfold Buffers.write
  split
  · exact Buffers.wf_remove b hm
  · rename_i hv
    exact Buffers.wf_insert b hv hm

/-- A non-empty write is read back whole, whatever the list was. -/
theorem Buffers.read_write_of_ne_nil (m : Buffers) (b : Nat) {v : List Byte} (hv : v ≠ []) :
    Buffers.read (m.write b v) b = v := by
  simp [Buffers.write, hv, Buffers.read_insert]

/-- A write leaves every other buffer alone. -/
theorem Buffers.read_write_other (m : Buffers) {a b : Nat} (v : List Byte) (h : a ≠ b) :
    Buffers.read (m.write b v) a = m.read a := by
  unfold Buffers.write
  split
  · exact Buffers.read_remove_other m h
  · exact Buffers.read_insert_other m v h

end Sys2Proof.Machine
end

