-- ==== Sys2Proof/Laws/Crc.lean ====
section
/-! SUPPORT. The CRC unit: an entry of a built table is BuildEntry of its index, CrcRun over
sequences, what EnsureTable leaves behind, and the datapaths of a state whose table is built. -/

namespace Sys2Proof.Machine

@[simp] theorem entry_buildTable {w : Nat} (poly : BitVec w) (refl : Bool) (b : Byte) :
    entry (buildTable poly refl) b = buildEntry poly refl b := by
  simp [entry, buildTable]

@[simp] theorem crcRun_nil {w : Nat} (refl : Bool) (T : Vector (BitVec w) 256) (c : BitVec w) :
    crcRun refl T c [] = c := rfl

@[simp] theorem crcRun_cons {w : Nat} (refl : Bool) (T : Vector (BitVec w) 256) (c : BitVec w)
    (b : Byte) (bs : List Byte) :
    crcRun refl T c (b :: bs) = crcRun refl T (crcStep refl T c b) bs := rfl

theorem crcRun_append {w : Nat} (refl : Bool) (T : Vector (BitVec w) 256) (c : BitVec w)
    (xs ys : List Byte) :
    crcRun refl T c (xs ++ ys) = crcRun refl T (crcRun refl T c xs) ys := by
  simp [crcRun, List.foldl_append]

@[simp] theorem TableUnit.ensure_valid {w : Nat} (poly : BitVec w) (refl : Bool)
    (t : TableUnit w) : (t.ensure poly refl).valid = true := by
  unfold TableUnit.ensure
  split
  · assumption
  · rfl

/-- A unit that meets R32 is, once ensured, the built one. -/
theorem TableUnit.ensure_eq {w : Nat} {poly : BitVec w} {refl : Bool} {t : TableUnit w}
    (h : t.valid = true → t.tbl = buildTable poly refl) :
    t.ensure poly refl = { tbl := buildTable poly refl, valid := true } := by
  unfold TableUnit.ensure
  split
  · rename_i hv
    cases t
    simp_all
  · rfl

/-- EnsureTable leaves the table of its profile built (R32, R134). -/
theorem State.ensureTable_built {s : State} (p : Profile) (h : s.tablesOk) :
    (s.ensureTable p).tableBuilt p := by
  obtain ⟨h1, h4, h5⟩ := h
  cases p
  · exact TableUnit.ensure_eq h1
  · exact TableUnit.ensure_eq h4
  · exact TableUnit.ensure_eq h5

/-- EnsureTable keeps R32. -/
theorem State.ensureTable_tablesOk {s : State} (p : Profile) (h : s.tablesOk) :
    (s.ensureTable p).tablesOk := by
  obtain ⟨h1, h4, h5⟩ := h
  cases p
  · exact ⟨fun _ => congrArg TableUnit.tbl (TableUnit.ensure_eq h1), h4, h5⟩
  · exact ⟨h1, fun _ => congrArg TableUnit.tbl (TableUnit.ensure_eq h4), h5⟩
  · exact ⟨h1, h4, fun _ => congrArg TableUnit.tbl (TableUnit.ensure_eq h5)⟩

/-- EnsureTable touches its own table only. -/
theorem State.ensureTable_keeps (p : Profile) (s : State) :
    keepsOtherTables p s (s.ensureTable p) := by
  cases p <;> exact ⟨rfl, rfl⟩

/-- The nibbles of a control byte stand in its halves (R101). -/
theorem controlByte01_eq (d : Half) (cnt : Nibble) :
    controlByte01 d cnt = d.extractLsb' 4 4 ++ cnt := by
  have h : ∀ x c : Nibble, (x.setWidth 8 <<< 4) ||| c.setWidth 8 = (x ++ c : BitVec (4 + 4)) := by
    decide +kernel
  exact h _ _

/-- A counter byte has a zero upper nibble (R102, R103). -/
theorem counterByte_eq : ∀ cnt : Nibble, counterByte cnt = (0#4 ++ cnt : BitVec (4 + 4)) := by
  decide +kernel

/-- The frame of a state whose table is built is the frame of R101, R102, R103. -/
theorem State.frame_of_built {s : State} {p : Profile} (h : s.tableBuilt p) (d : Half)
    (cnt : Nibble) (pl : List Byte) : s.frame p d cnt pl = frameOf s.cfg p d cnt pl := by
  cases p
  · have ht : s.t01 = { tbl := T01 s.cfg, valid := true } := h
    simp [State.frame, frameOf, crcOf, encode01, ht, crc01, crcInput01, controlByte01_eq,
      reflected, xorOut01]
  · have ht : s.t04 = { tbl := T04 s.cfg, valid := true } := h
    simp [State.frame, frameOf, crcOf, encode04, ht, crc04, crcInput04, counterByte_eq,
      reflected, xorOut04, init04, le32]
  · have ht : s.t05 = { tbl := T05 s.cfg, valid := true } := h
    simp only [State.frame, frameOf, crcOf, encode05, ht, crc05, crcInput05, counterByte_eq,
      reflected, xorOut05, init05, le16, List.cons_append, List.nil_append]
    congr 1
    · ext i hi
      simp
      omega
    · congr 1
      ext i hi
      simp
      omega

/-- COMPUTE_CRC's value in a state whose table is built. -/
theorem State.crcValue_of_built {s : State} {p : Profile} (h : s.tableBuilt p) (d : Half)
    (cb : Byte) (pl : List Byte) : s.crcValue p d cb pl = crcOf s.cfg p d cb pl := by
  cases p
  · have ht : s.t01 = { tbl := T01 s.cfg, valid := true } := h
    simp [State.crcValue, crcOf, ht, crc01, crcInput01, reflected, xorOut01]
  · have ht : s.t04 = { tbl := T04 s.cfg, valid := true } := h
    simp [State.crcValue, crcOf, ht, crc04, crcInput04, reflected, xorOut04, init04]
  · have ht : s.t05 = { tbl := T05 s.cfg, valid := true } := h
    simp [State.crcValue, crcOf, ht, crc05, crcInput05, reflected, xorOut05, init05]

end Sys2Proof.Machine
end

