-- ==== Sys2Proof/Laws/State.lean ====
section
/-! SUPPORT. One lemma per field of State for every named update of it, each true by unfolding, so
that no later proof unfolds a record update. -/

namespace Sys2Proof.Machine

@[simp] theorem State.respond_cfg (s : State) (st : Status) (res : Word) :
    (s.respond st res).cfg = s.cfg := rfl

@[simp] theorem State.respond_t01 (s : State) (st : Status) (res : Word) :
    (s.respond st res).t01 = s.t01 := rfl

@[simp] theorem State.respond_t04 (s : State) (st : Status) (res : Word) :
    (s.respond st res).t04 = s.t04 := rfl

@[simp] theorem State.respond_t05 (s : State) (st : Status) (res : Word) :
    (s.respond st res).t05 = s.t05 := rfl

@[simp] theorem State.respond_slots (s : State) (st : Status) (res : Word) :
    (s.respond st res).slots = s.slots := rfl

@[simp] theorem State.respond_port (s : State) (st : Status) (res : Word) :
    (s.respond st res).port = s.port := rfl

@[simp] theorem State.respond_resp (s : State) (st : Status) (res : Word) :
    (s.respond st res).resp = some { status := st, res := res } := rfl

@[simp] theorem State.respond_buffers (s : State) (st : Status) (res : Word) :
    (s.respond st res).buffers = s.buffers := rfl

@[simp] theorem State.respond_agents (s : State) (st : Status) (res : Word) :
    (s.respond st res).agents = s.agents := rfl

@[simp] theorem State.respond_events (s : State) (st : Status) (res : Word) :
    (s.respond st res).events = s.events := rfl

@[simp] theorem State.setSlot_cfg (s : State) (k : Nat) (sl : Slot) :
    (s.setSlot k sl).cfg = s.cfg := rfl

@[simp] theorem State.setSlot_t01 (s : State) (k : Nat) (sl : Slot) :
    (s.setSlot k sl).t01 = s.t01 := rfl

@[simp] theorem State.setSlot_t04 (s : State) (k : Nat) (sl : Slot) :
    (s.setSlot k sl).t04 = s.t04 := rfl

@[simp] theorem State.setSlot_t05 (s : State) (k : Nat) (sl : Slot) :
    (s.setSlot k sl).t05 = s.t05 := rfl

@[simp] theorem State.setSlot_slots (s : State) (k : Nat) (sl : Slot) :
    (s.setSlot k sl).slots = s.slots.set k sl := rfl

@[simp] theorem State.setSlot_port (s : State) (k : Nat) (sl : Slot) :
    (s.setSlot k sl).port = s.port := rfl

@[simp] theorem State.setSlot_resp (s : State) (k : Nat) (sl : Slot) :
    (s.setSlot k sl).resp = s.resp := rfl

@[simp] theorem State.setSlot_buffers (s : State) (k : Nat) (sl : Slot) :
    (s.setSlot k sl).buffers = s.buffers := rfl

@[simp] theorem State.setSlot_agents (s : State) (k : Nat) (sl : Slot) :
    (s.setSlot k sl).agents = s.agents := rfl

@[simp] theorem State.setSlot_events (s : State) (k : Nat) (sl : Slot) :
    (s.setSlot k sl).events = s.events := rfl

@[simp] theorem State.memWrite_cfg (s : State) (v : List Byte) :
    (s.memWrite v).cfg = s.cfg := rfl

@[simp] theorem State.memWrite_t01 (s : State) (v : List Byte) :
    (s.memWrite v).t01 = s.t01 := rfl

@[simp] theorem State.memWrite_t04 (s : State) (v : List Byte) :
    (s.memWrite v).t04 = s.t04 := rfl

@[simp] theorem State.memWrite_t05 (s : State) (v : List Byte) :
    (s.memWrite v).t05 = s.t05 := rfl

@[simp] theorem State.memWrite_slots (s : State) (v : List Byte) :
    (s.memWrite v).slots = s.slots := rfl

@[simp] theorem State.memWrite_port (s : State) (v : List Byte) :
    (s.memWrite v).port = s.port := rfl

@[simp] theorem State.memWrite_resp (s : State) (v : List Byte) :
    (s.memWrite v).resp = s.resp := rfl

@[simp] theorem State.memWrite_buffers (s : State) (v : List Byte) :
    (s.memWrite v).buffers = s.buffers.write s.port.out v := rfl

@[simp] theorem State.memWrite_agents (s : State) (v : List Byte) :
    (s.memWrite v).agents = s.agents := rfl

@[simp] theorem State.memWrite_events (s : State) (v : List Byte) :
    (s.memWrite v).events = s.events := rfl

@[simp] theorem State.powerOnReset_cfg (s : State) :
    (s.powerOnReset).cfg = s.cfg := rfl

@[simp] theorem State.powerOnReset_t01 (s : State) :
    (s.powerOnReset).t01 = .powerOn 8 := rfl

@[simp] theorem State.powerOnReset_t04 (s : State) :
    (s.powerOnReset).t04 = .powerOn 32 := rfl

@[simp] theorem State.powerOnReset_t05 (s : State) :
    (s.powerOnReset).t05 = .powerOn 16 := rfl

@[simp] theorem State.powerOnReset_slots (s : State) :
    (s.powerOnReset).slots = List.replicate s.slots.length .powerOn := rfl

@[simp] theorem State.powerOnReset_port (s : State) :
    (s.powerOnReset).port = s.port := rfl

@[simp] theorem State.powerOnReset_resp (s : State) :
    (s.powerOnReset).resp = s.resp := rfl

@[simp] theorem State.powerOnReset_buffers (s : State) :
    (s.powerOnReset).buffers = s.buffers := rfl

@[simp] theorem State.powerOnReset_agents (s : State) :
    (s.powerOnReset).agents = s.agents := rfl

@[simp] theorem State.powerOnReset_events (s : State) :
    (s.powerOnReset).events = s.events := rfl

@[simp] theorem State.issue_cfg (s : State) (c : Command) :
    (s.issue c).cfg = s.cfg := rfl

@[simp] theorem State.issue_t01 (s : State) (c : Command) :
    (s.issue c).t01 = s.t01 := rfl

@[simp] theorem State.issue_t04 (s : State) (c : Command) :
    (s.issue c).t04 = s.t04 := rfl

@[simp] theorem State.issue_t05 (s : State) (c : Command) :
    (s.issue c).t05 = s.t05 := rfl

@[simp] theorem State.issue_slots (s : State) (c : Command) :
    (s.issue c).slots = s.slots := rfl

@[simp] theorem State.issue_port (s : State) (c : Command) :
    (s.issue c).port = s.port := rfl

@[simp] theorem State.issue_resp (s : State) (c : Command) :
    (s.issue c).resp = s.resp := rfl

@[simp] theorem State.issue_buffers (s : State) (c : Command) :
    (s.issue c).buffers = s.buffers := rfl

@[simp] theorem State.issue_agents (s : State) (c : Command) :
    (s.issue c).agents = issueFirst c s.agents := rfl

@[simp] theorem State.issue_events (s : State) (c : Command) :
    (s.issue c).events = .grant 0 :: s.events := rfl

@[simp] theorem State.ensureTable_cfg (p : Profile) (s : State) :
    (s.ensureTable p).cfg = s.cfg := by cases p <;> rfl

@[simp] theorem State.ensureTable_slots (p : Profile) (s : State) :
    (s.ensureTable p).slots = s.slots := by cases p <;> rfl

@[simp] theorem State.ensureTable_port (p : Profile) (s : State) :
    (s.ensureTable p).port = s.port := by cases p <;> rfl

@[simp] theorem State.ensureTable_resp (p : Profile) (s : State) :
    (s.ensureTable p).resp = s.resp := by cases p <;> rfl

@[simp] theorem State.ensureTable_buffers (p : Profile) (s : State) :
    (s.ensureTable p).buffers = s.buffers := by cases p <;> rfl

@[simp] theorem State.ensureTable_agents (p : Profile) (s : State) :
    (s.ensureTable p).agents = s.agents := by cases p <;> rfl

@[simp] theorem State.ensureTable_events (p : Profile) (s : State) :
    (s.ensureTable p).events = s.events := by cases p <;> rfl

@[simp] theorem State.ensureTable_p01_t01 (s : State) :
    (s.ensureTable .p01).t01 = s.t01.ensure s.cfg.poly8 (reflected .p01) := rfl

@[simp] theorem State.ensureTable_p04_t01 (s : State) :
    (s.ensureTable .p04).t01 = s.t01 := rfl

@[simp] theorem State.ensureTable_p05_t01 (s : State) :
    (s.ensureTable .p05).t01 = s.t01 := rfl

@[simp] theorem State.ensureTable_p01_t04 (s : State) :
    (s.ensureTable .p01).t04 = s.t04 := rfl

@[simp] theorem State.ensureTable_p04_t04 (s : State) :
    (s.ensureTable .p04).t04 = s.t04.ensure s.cfg.poly32 (reflected .p04) := rfl

@[simp] theorem State.ensureTable_p05_t04 (s : State) :
    (s.ensureTable .p05).t04 = s.t04 := rfl

@[simp] theorem State.ensureTable_p01_t05 (s : State) :
    (s.ensureTable .p01).t05 = s.t05 := rfl

@[simp] theorem State.ensureTable_p04_t05 (s : State) :
    (s.ensureTable .p04).t05 = s.t05 := rfl

@[simp] theorem State.ensureTable_p05_t05 (s : State) :
    (s.ensureTable .p05).t05 = s.t05.ensure s.cfg.poly16 (reflected .p05) := rfl

/-- The input of a command is read from the port and the buffers only. -/
theorem State.input_congr {s t : State} (hp : t.port = s.port) (hb : t.buffers = s.buffers) :
    t.input = s.input := by simp only [State.input, hp, hb]

@[simp] theorem State.input_respond (s : State) (st : Status) (res : Word) :
    (s.respond st res).input = s.input := rfl

@[simp] theorem State.input_setSlot (s : State) (k : Nat) (sl : Slot) :
    (s.setSlot k sl).input = s.input := rfl

@[simp] theorem State.input_ensureTable (p : Profile) (s : State) :
    (s.ensureTable p).input = s.input := by cases p <;> rfl

end Sys2Proof.Machine
end

