-- ==== Sys2Proof/Laws/Ops.lean ====
section
/-! SUPPORT. The shared operations: what each can answer, said once. The meanings are cited through
`exec_eq_family` and these lemmas, never unfolded. -/

namespace Sys2Proof.Machine

/-- Every command is its operation's shared body at its profile and ARG8. -/
def family (o : Operation) (p : Profile) (a : Byte) (s : State) : StepOutcome :=
  match o with
  | .construct => construct p s
  | .initTable => initTable p s
  | .tableRead => tableRead p a s
  | .crcStep => crcStepCommand p a s
  | .computeCrc => computeCrc p a s
  | .tryProtect => tryProtect p s
  | .tryForward => tryForward p s
  | .check => check p s

theorem exec_eq_family (i : Instr) (s : State) : exec i s = family i.op i.profile i.arg8 s := by
  cases i <;> rfl

theorem tooLong_add {m : Option Nat} {a n : Nat} (h : tooLong m (a + n) = false) :
    tooLong m n = false := by
  cases m with
  | none => rfl
  | some k =>
    simp only [tooLong, decide_eq_false_iff_not] at *
    omega

/-- Admission passes exactly when the slot is there, of the profile, and no length is too long. -/
theorem State.admit_ok {s : State} {p : Profile} {e : Nat} {sl : Slot} :
    s.admission p e = .ok sl ↔
      s.admits p sl ∧ tooLong s.cfg.maxFrameLen (e + s.input.length) = false := by
  unfold State.admission State.admits State.addressed
  cases hs : s.slots[s.port.inst]? with
  | none => simp
  | some x =>
    simp only [Option.some.injEq]
    by_cases hx : x = sl
    · subst hx
      cases ht : x.type with
      | unconstructed => simp
      | active q =>
        by_cases hq : q = p
        · by_cases hl : tooLong s.cfg.maxFrameLen s.input.length
          · simp [hq, hl]
          · by_cases ho : tooLong s.cfg.maxFrameLen (e + s.input.length)
            · simp [hq, hl, ho]
            · simp [hq, hl, ho]
        · simp [hq]
    · simp only [hx, false_and, iff_false]
      intro h
      split at h
      · cases h
      · split at h
        · cases h
        · split at h
          · cases h
          · split at h
            · cases h
            · exact hx (Except.ok.inj h)

/-- Admission without an output passes exactly under `admits`. -/
theorem State.admit_zero_ok {s : State} {p : Profile} {sl : Slot} :
    s.admission p 0 = .ok sl ↔ s.admits p sl := by
  rw [State.admit_ok, Nat.zero_add]
  exact ⟨fun h => h.1, fun h => ⟨h, h.2.2⟩⟩

/-- Admission with an output passes exactly under `admitsOutput`. -/
theorem State.admit_header_ok {s : State} {p : Profile} {sl : Slot} :
    s.admission p (headerLen p) = .ok sl ↔ s.admitsOutput p sl := State.admit_ok

/-- Admission fails only with one of the four slot rejections. -/
theorem State.admit_error {s : State} {p : Profile} {e : Nat} {st : Status}
    (h : s.admission p e = .error st) :
    st = .rejInstance ∨ st = .rejUnconstructed ∨ st = .rejMismatch ∨ st = .rejLength := by
  unfold State.admission at h
  split at h
  · simp_all
  · split at h
    · simp_all
    · split at h
      · simp_all
      · split at h
        · simp_all
        · split at h <;> simp_all

/-- What TRY_PROTECT can answer. -/
theorem tryProtect_cases (p : Profile) (s : State) :
    (∃ st, s.admission p (headerLen p) = .error st ∧ tryProtect p s = reject st s) ∨
    (∃ sl, s.admitsOutput p sl ∧ s.input = [] ∧
      tryProtect p s = .next (s.respond .inputFalse 0)) ∨
    (∃ sl, s.admitsOutput p sl ∧ s.input ≠ [] ∧
      tryProtect p s = emitFrame p sl (counterInc sl.pcnt (cmax p)) s) := by
  unfold tryProtect
  cases h : s.admission p (headerLen p) with
  | error st => exact .inl ⟨st, rfl, rfl⟩
  | ok sl =>
    have ha := State.admit_header_ok.1 h
    by_cases hn : s.input = []
    · exact .inr (.inl ⟨sl, ha, hn, by simp [hn]⟩)
    · exact .inr (.inr ⟨sl, ha, hn, by simp [hn]⟩)

/-- What TRY_FORWARD can answer. -/
theorem tryForward_cases (p : Profile) (s : State) :
    (∃ st, s.admission p (headerLen p) = .error st ∧ tryForward p s = reject st s) ∨
    (∃ sl, s.admitsOutput p sl ∧ s.input = [] ∧
      tryForward p s = .next (s.respond .inputFalse 0)) ∨
    (∃ sl, s.admitsOutput p sl ∧ s.input ≠ [] ∧ tryForward p s = emitFrame p sl sl.ccnt s) := by
  unfold tryForward
  cases h : s.admission p (headerLen p) with
  | error st => exact .inl ⟨st, rfl, rfl⟩
  | ok sl =>
    have ha := State.admit_header_ok.1 h
    by_cases hn : s.input = []
    · exact .inr (.inl ⟨sl, ha, hn, by simp [hn]⟩)
    · exact .inr (.inr ⟨sl, ha, hn, by simp [hn]⟩)

/-- What COMPUTE_CRC can answer. -/
theorem computeCrc_cases (p : Profile) (a : Byte) (s : State) :
    (∃ st, s.admission p 0 = .error st ∧ computeCrc p a s = reject st s) ∨
    (∃ sl, s.admits p sl ∧ computeCrc p a s = .next ((s.ensureTable p).respond .done
      ((s.ensureTable p).crcValue p sl.dataId a s.input))) := by
  unfold computeCrc
  cases h : s.admission p 0 with
  | error st => exact .inl ⟨st, rfl, rfl⟩
  | ok sl => exact .inr ⟨sl, State.admit_zero_ok.1 h, rfl⟩

/-- What CHECK can answer. -/
theorem check_cases (p : Profile) (s : State) :
    (∃ st, s.admission p 0 = .error st ∧ check p s = reject st s) ∨
    (∃ sl, s.admits p sl ∧ s.input.length < headerLen p + 1 ∧
      check p s = .next (s.respond .kNoNewData 0)) ∨
    (∃ sl, s.admits p sl ∧ headerLen p + 1 ≤ s.input.length ∧
      check p s = .next (((s.ensureTable p).setSlot s.port.inst
        { sl with ccnt := recvCounter p s.input }).respond
          ((s.ensureTable p).verdict p sl s.input) 0)) := by
  unfold check
  cases h : s.admission p 0 with
  | error st => exact .inl ⟨st, rfl, rfl⟩
  | ok sl =>
    have ha := State.admit_zero_ok.1 h
    by_cases hn : s.input.length < headerLen p + 1
    · exact .inr (.inl ⟨sl, ha, hn, by simp [hn]⟩)
    · exact .inr (.inr ⟨sl, ha, by omega, by simp [hn]⟩)

/-- What CONSTRUCT can answer. -/
theorem construct_cases (p : Profile) (s : State) :
    (s.slots.length ≤ s.port.inst ∧ construct p s = reject .rejInstance s) ∨
    (s.port.inst < s.slots.length ∧ construct p s = .next ((s.setSlot s.port.inst
      { type := .active p
        dataId := opaDataId s.port.opa
        maxDelta := opaMaxDelta s.port.opa
        pcnt := 0
        ccnt := 0 }).respond .done 0)) := by
  unfold construct
  by_cases h : s.slots.length ≤ s.port.inst
  · exact .inl ⟨h, by simp [h]⟩
  · exact .inr ⟨by omega, by simp [h]⟩

/-- An emitted frame is never empty. -/
theorem State.frame_ne_nil (s : State) (p : Profile) (d : Half) (cnt : Nibble) (pl : List Byte) :
    s.frame p d cnt pl ≠ [] := by
  cases p <;> simp [State.frame, encode01, encode04, encode05, le16, le32]

/-- Every command can answer only one of these next states; the updates are the named ones. -/
inductive Effect (p : Profile) (s : State) : State → Prop where
  /-- Only the response. -/
  | respond (st : Status) : Effect p s (s.respond st 0)
  /-- CONSTRUCT. -/
  | construct (sl : Slot) (h : s.port.inst < s.slots.length) :
    Effect p s ((s.setSlot s.port.inst sl).respond .done 0)
  /-- The table built, and a result. -/
  | result (res : Word) : Effect p s ((s.ensureTable p).respond .done res)
  /-- A frame emitted. -/
  | frame (sl : Slot) (c : Nibble) (v : List Byte) (h : s.addressed = some sl) :
    Effect p s ((((s.ensureTable p).setSlot s.port.inst { sl with pcnt := c }).memWrite v).respond
      .frameTrue 0)
  /-- A frame checked. -/
  | checked (sl : Slot) (st : Status) (h : s.addressed = some sl) :
    Effect p s (((s.ensureTable p).setSlot s.port.inst
      { sl with ccnt := recvCounter p s.input }).respond st 0)

/-- The inversion lemma of all 24 commands: each answers a next state, with one of these effects. -/
theorem exec_effect (i : Instr) (s : State) :
    ∃ t, exec i s = .next t ∧ Effect i.profile s t := by
  rw [exec_eq_family]
  generalize i.profile = p
  generalize i.arg8 = a
  cases i.op with
  | construct =>
    rcases construct_cases p s with ⟨-, h⟩ | ⟨hk, h⟩
    · exact ⟨_, h, .respond _⟩
    · exact ⟨_, h, .construct _ hk⟩
  | initTable => exact ⟨_, rfl, .result 0⟩
  | tableRead => exact ⟨_, rfl, .result _⟩
  | crcStep => exact ⟨_, rfl, .result _⟩
  | computeCrc =>
    rcases computeCrc_cases p a s with ⟨st, -, h⟩ | ⟨sl, -, h⟩
    · exact ⟨_, h, .respond _⟩
    · exact ⟨_, h, .result _⟩
  | tryProtect =>
    rcases tryProtect_cases p s with ⟨st, -, h⟩ | ⟨sl, -, -, h⟩ | ⟨sl, ha, -, h⟩
    · exact ⟨_, h, .respond _⟩
    · exact ⟨_, h, .respond _⟩
    · exact ⟨_, h, .frame sl _ _ ha.1.1⟩
  | tryForward =>
    rcases tryForward_cases p s with ⟨st, -, h⟩ | ⟨sl, -, -, h⟩ | ⟨sl, ha, -, h⟩
    · exact ⟨_, h, .respond _⟩
    · exact ⟨_, h, .respond _⟩
    · exact ⟨_, h, .frame sl _ _ ha.1.1⟩
  | check =>
    rcases check_cases p s with ⟨st, -, h⟩ | ⟨sl, -, -, h⟩ | ⟨sl, ha, -, h⟩
    · exact ⟨_, h, .respond _⟩
    · exact ⟨_, h, .respond _⟩
    · exact ⟨_, h, .checked sl _ ha.1⟩

/-- Every command keeps R32. -/
theorem Effect.tablesOk {p : Profile} {s t : State} (h : Effect p s t) (hs : s.tablesOk) :
    t.tablesOk := by
  have he := State.ensureTable_tablesOk p hs
  cases h with
  | respond _ => exact hs
  | construct _ _ => exact hs
  | result _ => exact he
  | frame _ _ _ _ => exact he
  | checked _ _ _ => exact he

/-- Every command keeps the number of slots. -/
theorem Effect.length {p : Profile} {s t : State} (h : Effect p s t) :
    t.slots.length = s.slots.length := by
  cases h <;> simp

/-- Every command keeps the canonical form of the buffers. -/
theorem Effect.buffers_wf {p : Profile} {s t : State} (h : Effect p s t)
    (hs : s.buffers.wf = true) : t.buffers.wf = true := by
  cases h <;> simp [hs, Buffers.wf_write]

/-- No command touches the parameters or the host's side of the port but response and buffers. -/
theorem Effect.keepsPort {p : Profile} {s t : State} (h : Effect p s t) : KeepsPort s t := by
  cases h <;> constructor <;> simp

end Sys2Proof.Machine
end

