-- ==== Sys2Proof/Laws/PerInstr.lean ====
section
/-! SUPPORT. Statements made per command: its encoding matches its own row of opcode_table.json
(30_encoding.md R99), so no encoding is reserved. -/

namespace Sys2Proof.Laws.LegalEncoding

/-- The command's word is legal. -/
def Statement (i : Instr) : Prop := legalWord (encode i) = true

theorem constructP01 : Statement .constructP01 := by
  unfold Statement; decide +kernel

theorem constructP04 : Statement .constructP04 := by
  unfold Statement; decide +kernel

theorem constructP05 : Statement .constructP05 := by
  unfold Statement; decide +kernel

theorem initTableP01 : Statement .initTableP01 := by
  unfold Statement; decide +kernel

theorem initTableP04 : Statement .initTableP04 := by
  unfold Statement; decide +kernel

theorem initTableP05 : Statement .initTableP05 := by
  unfold Statement; decide +kernel

theorem tableReadP01 : ∀ index : Byte, Statement (.tableReadP01 index) := by
  unfold Statement; decide +kernel

theorem tableReadP04 : ∀ index : Byte, Statement (.tableReadP04 index) := by
  unfold Statement; decide +kernel

theorem tableReadP05 : ∀ index : Byte, Statement (.tableReadP05 index) := by
  unfold Statement; decide +kernel

theorem crcStepP01 : ∀ data : Byte, Statement (.crcStepP01 data) := by
  unfold Statement; decide +kernel

theorem crcStepP04 : ∀ data : Byte, Statement (.crcStepP04 data) := by
  unfold Statement; decide +kernel

theorem crcStepP05 : ∀ data : Byte, Statement (.crcStepP05 data) := by
  unfold Statement; decide +kernel

theorem computeCrcP01 : ∀ control : Byte, Statement (.computeCrcP01 control) := by
  unfold Statement; decide +kernel

theorem computeCrcP04 : ∀ control : Byte, Statement (.computeCrcP04 control) := by
  unfold Statement; decide +kernel

theorem computeCrcP05 : ∀ control : Byte, Statement (.computeCrcP05 control) := by
  unfold Statement; decide +kernel

theorem tryProtectP01 : Statement .tryProtectP01 := by
  unfold Statement; decide +kernel

theorem tryProtectP04 : Statement .tryProtectP04 := by
  unfold Statement; decide +kernel

theorem tryProtectP05 : Statement .tryProtectP05 := by
  unfold Statement; decide +kernel

theorem tryForwardP01 : Statement .tryForwardP01 := by
  unfold Statement; decide +kernel

theorem tryForwardP04 : Statement .tryForwardP04 := by
  unfold Statement; decide +kernel

theorem tryForwardP05 : Statement .tryForwardP05 := by
  unfold Statement; decide +kernel

theorem checkP01 : Statement .checkP01 := by
  unfold Statement; decide +kernel

theorem checkP04 : Statement .checkP04 := by
  unfold Statement; decide +kernel

theorem checkP05 : Statement .checkP05 := by
  unfold Statement; decide +kernel

end Sys2Proof.Laws.LegalEncoding
end

