-- ==== Sys2Proof/Laws/Step.lean ====
section
/-! SUPPORT. The step: what one event can bring, said once. -/

namespace Sys2Proof.Machine

/-- What a step can take from the outside world. -/
theorem State.fetch_cases (s : State) :
    (s.events = [] ∧ s.fetch = .idle s) ∨
    (∃ es, s.events = .powerOn :: es ∧ s.fetch = .idle { s with events := es }.powerOnReset) ∨
    (∃ a es, s.events = .grant a :: es ∧ (s.agents[a]? = none ∨ s.agents[a]? = some []) ∧
      s.fetch = .idle { s with events := es }) ∨
    (∃ a es c q, s.events = .grant a :: es ∧ s.agents[a]? = some (c :: q) ∧
      s.fetch = .command { s with events := es, agents := s.agents.set a q, port := c }) := by
  unfold State.fetch
  cases he : s.events with
  | nil => exact .inl ⟨rfl, rfl⟩
  | cons e es =>
    cases e with
    | powerOn => exact .inr (.inl ⟨es, rfl, rfl⟩)
    | grant a =>
      cases ha : s.agents[a]? with
      | none => exact .inr (.inr (.inl ⟨a, es, rfl, .inl ha, by simp [ha]⟩))
      | some l =>
        cases l with
        | nil => exact .inr (.inr (.inl ⟨a, es, rfl, .inr ha, by simp [ha]⟩))
        | cons c q => exact .inr (.inr (.inr ⟨a, es, c, q, rfl, ha, by simp [ha]⟩))

/-- The port's command answers a next state: a decoder rejection or a command's effect. -/
theorem runPort_cases (s : State) :
    (∃ r, decode s.port.word = .illegal r ∧
      runPort s = .next (s.respond (illegalStatus r) 0)) ∨
    (∃ i t, decode s.port.word = .command i ∧ runPort s = .next t ∧ exec i s = .next t ∧
      Effect i.profile s t) := by
  unfold runPort
  cases h : decode s.port.word with
  | illegal r => exact .inl ⟨r, rfl, rfl⟩
  | command i =>
    obtain ⟨t, ht, he⟩ := exec_effect i s
    exact .inr ⟨i, t, rfl, ht, ht, he⟩

/-- A step whose event brings a command is that command's run. -/
theorem step_of_command {s s' : State} (h : s.fetch = .command s') : step s = runPort s' := by
  simp [step, h]

/-- A step whose event brings none. -/
theorem step_of_idle {s s' : State} (h : s.fetch = .idle s') : step s = .next s' := by
  simp [step, h]

/-- A command issued by `issue` is what the next step runs, on the state as it was but for the
port and agent 0's queue. -/
theorem step_issue (s : State) (c : Command) :
    ∃ ag, step (s.issue c) = runPort { s with port := c, agents := ag } := by
  cases ha : s.agents with
  | nil => exact ⟨[[]], by simp [step, State.fetch, State.issue, issueFirst, ha]⟩
  | cons q qs => exact ⟨q :: qs, by simp [step, State.fetch, State.issue, issueFirst, ha]⟩

end Sys2Proof.Machine
end

