-- ==== Sys2Proof/Tests/Slice0.lean ====
section
/-! SUPPORT. Tests: the decoder on words written out from 30_encoding.md R91 to R94, the checks of
WellFormed.lean refusing ill-formed terms, vectors of 95_test_vectors.md and the worked examples of
the rules, one step each; and for every statement with hypotheses a witness that meets them. -/

namespace Sys2Proof.Tests

set_option Elab.async false

open Sys2Proof.Machine

/-! ## Well-formedness: each check refuses an ill-formed term -/

theorem test_legalWord_refuses_opcode : legalWord 0x8100 = false := by decide +kernel
theorem test_legalWord_refuses_profile : legalWord 0x0B00 = false := by decide +kernel
theorem test_legalWord_refuses_arg : legalWord 0x5101 = false := by decide +kernel
theorem test_legalWord_accepts : legalWord 0x25FF = true := by decide +kernel
theorem test_config_refuses_short_frames :
    Config.wf { recommendedConfig with maxFrameLen := some 6 } = false := by decide
theorem test_config_accepts_seven :
    Config.wf { recommendedConfig with maxFrameLen := some 7 } = true := by decide
theorem test_instCount_refuses_zero : wfInstCount 0 = false := by decide
theorem test_buffers_refuse_disorder :
    Buffers.wf [(2, [0x01]), (1, [0x02])] = false ∧ Buffers.wf [(1, [])] = false := by decide

/-! ## Decoding: every row, the word written out field by field (OP, PROF, ARG8) -/

theorem test_decode_construct :
    decode 0b0000000100000000 = .command .constructP01 ∧
    decode 0b0000010000000000 = .command .constructP04 ∧
    decode 0b0000010100000000 = .command .constructP05 := by decide +kernel
theorem test_decode_initTable :
    decode 0b0001000100000000 = .command .initTableP01 ∧
    decode 0b0001010000000000 = .command .initTableP04 ∧
    decode 0b0001010100000000 = .command .initTableP05 := by decide +kernel
theorem test_decode_tableRead :
    decode 0b0010000110000000 = .command (.tableReadP01 0x80) ∧
    decode 0b0010010000000001 = .command (.tableReadP04 0x01) ∧
    decode 0b0010010111111111 = .command (.tableReadP05 0xFF) := by decide +kernel
theorem test_decode_crcStep :
    decode 0b0011000100110001 = .command (.crcStepP01 0x31) ∧
    decode 0b0011010011111111 = .command (.crcStepP04 0xFF) ∧
    decode 0b0011010110101011 = .command (.crcStepP05 0xAB) := by decide +kernel
theorem test_decode_computeCrc :
    decode 0b0100000111000101 = .command (.computeCrcP01 0xC5) ∧
    decode 0b0100010000000101 = .command (.computeCrcP04 0x05) ∧
    decode 0b0100010100001111 = .command (.computeCrcP05 0x0F) := by decide +kernel
theorem test_decode_tryProtect :
    decode 0b0101000100000000 = .command .tryProtectP01 ∧
    decode 0b0101010000000000 = .command .tryProtectP04 ∧
    decode 0b0101010100000000 = .command .tryProtectP05 := by decide +kernel
theorem test_decode_tryForward :
    decode 0b0110000100000000 = .command .tryForwardP01 ∧
    decode 0b0110010000000000 = .command .tryForwardP04 ∧
    decode 0b0110010100000000 = .command .tryForwardP05 := by decide +kernel
theorem test_decode_check :
    decode 0b0111000100000000 = .command .checkP01 ∧
    decode 0b0111010000000000 = .command .checkP04 ∧
    decode 0b0111010100000000 = .command .checkP05 := by decide +kernel

/-- 95_test_vectors.md L2.7: the order of the three checks. -/
theorem test_decode_rejects_in_order :
    decode 0xF5FF = .illegal .opcode ∧ decode 0x0B01 = .illegal .profile ∧
    decode 0x0001 = .illegal .profile ∧ decode 0x1101 = .illegal .arg := by decide +kernel

/-- opcode_table.json by mnemonic, LAWS.json's map and the encoder agree on a row. -/
theorem test_encode_row : encode (.crcStepP04 0x31) = 0x3431 ∧ encode .checkP05 = 0x7500 := by
  decide +kernel

theorem test_decodeTableWord : decodeTableWord 16 0x45CC = some (.computeCrcP05 0xCC) := by
  decide +kernel

/-! ## One step each (95_test_vectors.md, worked examples of the rules) -/

/-- The payload of the vectors, `[12 34 56 78]`. -/
def payload : List Byte := [0x12, 0x34, 0x56, 0x78]

/-- Slots 0 and 1 ACTIVE(p, d, 1, pc, cc), slot 2 UNCONSTRUCTED; INST 0, IN given, OUT buffer 7. -/
def bench (p : Profile) (d : Half) (pc cc : Nibble) (inp : List Byte) : State :=
  { State.reset with
    slots := [⟨.active p, d, 1, pc, cc⟩, ⟨.active p, d, 1, 0, 0⟩, .powerOn]
    port := { word := 0, inst := 0, opa := 0, input := .bytes inp, out := 7 } }

/-- The same with another OPA. -/
def withOpa (opa : Word) (s : State) : State := { s with port := { s.port with opa := opa } }

/-- STATUS and RES after a step. -/
def answer : StepOutcome → Option (Status × Word)
  | .next t => t.resp.map fun r => (r.status, r.res)
  | .fault _ => none
  | .refused _ => none

/-- Slot 0 after a step. -/
def slot0 : StepOutcome → Option Slot
  | .next t => t.slots[0]?
  | .fault _ => none
  | .refused _ => none

/-- OUT (buffer 7) after a step. -/
def out7 : StepOutcome → List Byte
  | .next t => t.buffers.read 7
  | .fault _ => []
  | .refused _ => []

theorem test_constructP01 :
    slot0 (exec .constructP01 (withOpa 0x00011234 State.reset)) =
      some ⟨.active .p01, 0x1234, 1, 0, 0⟩ := by decide +kernel
theorem test_constructP04 :
    slot0 (exec .constructP04 (withOpa 0xFF021234 (bench .p01 0 5 6 []))) =
      some ⟨.active .p04, 0x1234, 2, 0, 0⟩ := by decide +kernel
theorem test_constructP05 :
    answer (exec .constructP05 State.reset) = some (.done, 0) := by decide +kernel
theorem test_initTableP01 :
    (match exec .initTableP01 State.reset with
     | .next t => t.t01.valid && !t.t04.valid && !t.t05.valid
     | .fault _ => false
     | .refused _ => false) = true := by decide +kernel
theorem test_initTableP04 :
    answer (exec .initTableP04 State.reset) = some (.done, 0) := by decide +kernel
theorem test_initTableP05 :
    answer (exec .initTableP05 State.reset) = some (.done, 0) := by decide +kernel
theorem test_tableReadP01 :
    answer (exec (.tableReadP01 0xFF) State.reset) = some (.done, 0x000000C4) := by
  decide +kernel
theorem test_tableReadP04 :
    answer (exec (.tableReadP04 0x02) State.reset) = some (.done, 0x610A1FEA) := by
  decide +kernel
theorem test_tableReadP05 :
    answer (exec (.tableReadP05 0xFF) State.reset) = some (.done, 0x00004040) := by
  decide +kernel
theorem test_crcStepP01_ignores_high_opa :
    answer (exec (.crcStepP01 0xAB) (withOpa 0x12345678 State.reset)) =
      some (.done, 0x000000DF) := by decide +kernel
theorem test_crcStepP04 :
    answer (exec (.crcStepP04 0xAB) (withOpa 0x12345678 State.reset)) =
      some (.done, 0x1EDE9530) := by decide +kernel
theorem test_crcStepP05_ignores_high_opa :
    answer (exec (.crcStepP05 0xAB) (withOpa 0x12345678 State.reset)) =
      some (.done, 0x00009D17) := by decide +kernel
theorem test_computeCrcP01 :
    answer (exec (.computeCrcP01 0x31) (bench .p01 0x1234 0 0 payload)) =
      some (.done, 0x00000003) := by decide +kernel
theorem test_computeCrcP04 :
    answer (exec (.computeCrcP04 0x0F) (bench .p04 0xFFFF 0 0 [0x00])) =
      some (.done, 0x40F3B350) := by decide +kernel
theorem test_computeCrcP05_empty :
    answer (exec (.computeCrcP05 0x00) (bench .p05 0 0 0 [])) = some (.done, 0x0000C071) := by
  decide +kernel
theorem test_tryProtectP01 :
    out7 (exec .tryProtectP01 (bench .p01 0x1234 0 0 payload)) =
      [0x03, 0x31, 0x12, 0x34, 0x56, 0x78] := by decide +kernel
theorem test_tryProtectP01_above_cmax :
    slot0 (exec .tryProtectP01 (bench .p01 0x1234 15 0 payload)) =
      some ⟨.active .p01, 0x1234, 1, 0, 0⟩ := by decide +kernel
theorem test_tryProtectP04 :
    out7 (exec .tryProtectP04 (bench .p04 0x1234 1 0 payload)) =
      [0x07, 0xEE, 0x12, 0xA8, 0x02, 0x34, 0x12, 0x34, 0x56, 0x78] := by decide +kernel
theorem test_tryProtectP04_wraps :
    slot0 (exec .tryProtectP04 (bench .p04 0x1234 14 3 payload)) =
      some ⟨.active .p04, 0x1234, 1, 0, 3⟩ := by decide +kernel
theorem test_tryProtectP05_wraps :
    out7 (exec .tryProtectP05 (bench .p05 0 15 0 payload)) =
      [0x60, 0x34, 0x00, 0x12, 0x34, 0x56, 0x78] := by decide +kernel
theorem test_tryForwardP01 :
    out7 (exec .tryForwardP01 (bench .p01 0 3 7 payload)) =
      [0x77, 0x07, 0x12, 0x34, 0x56, 0x78] := by decide +kernel
theorem test_tryForwardP04 :
    out7 (exec .tryForwardP04 (bench .p04 0 3 7 payload)) =
      [0xD5, 0xFB, 0x7F, 0xF1, 0x07, 0x00, 0x12, 0x34, 0x56, 0x78] := by decide +kernel
theorem test_tryForwardP05 :
    slot0 (exec .tryForwardP05 (bench .p05 0 3 7 payload)) =
      some ⟨.active .p05, 0, 1, 7, 7⟩ := by decide +kernel
theorem test_tryForward_empty :
    answer (exec .tryForwardP01 (bench .p01 0 3 7 [])) = some (.inputFalse, 0) ∧
    slot0 (exec .tryForwardP01 (bench .p01 0 3 7 [])) = some ⟨.active .p01, 0, 1, 3, 7⟩ := by
  decide +kernel
theorem test_checkP01_ok :
    answer (exec .checkP01 (bench .p01 0 0 0 ([0x16, 0x01] ++ payload))) = some (.kOk, 0) := by
  decide +kernel
theorem test_checkP01_bad_crc_moves_baseline :
    answer (exec .checkP01 (bench .p01 0 0 1 [0xC2, 0x03, 0x12, 0x34, 0x56, 0x79])) =
      some (.kWrongCrc, 0) ∧
    slot0 (exec .checkP01 (bench .p01 0 0 1 [0xC2, 0x03, 0x12, 0x34, 0x56, 0x79])) =
      some ⟨.active .p01, 0, 1, 0, 3⟩ := by decide +kernel
theorem test_checkP04_id_byte_altered :
    answer (exec .checkP04 (bench .p04 0x1234 0 0
      ([0x26, 0xB4, 0x1F, 0xD2, 0x01, 0x35] ++ payload))) = some (.kWrongCrc, 0) := by
  decide +kernel
theorem test_checkP04_header_only :
    answer (exec .checkP04 (bench .p04 0x1234 0 5 [0x26, 0xB4, 0x1F, 0xD2, 0x01, 0x34])) =
      some (.kNoNewData, 0) := by decide +kernel
theorem test_checkP05_wrap :
    answer (exec .checkP05 (bench .p05 0 0 15 ([0x60, 0x34, 0x00] ++ payload))) =
      some (.kWrongSequence, 0) := by decide +kernel
theorem test_checkP05_repeated :
    answer (exec .checkP05 (bench .p05 0x1234 0 1 ([0x6B, 0x81, 0x01] ++ payload))) =
      some (.kRepeated, 0) := by decide +kernel

/-- L2.7: admission, and MAX_FRAME_LEN = 8 with 6 + 3 = 9. -/
theorem test_admission :
    answer (exec .tryProtectP05 (bench .p01 0 0 0 payload)) = some (.rejMismatch, 0) ∧
    answer (exec .checkP01 { bench .p01 0 0 0 [] with
      port := { (bench .p01 0 0 0 []).port with inst := 2 } }) = some (.rejUnconstructed, 0) ∧
    answer (exec .constructP01 { bench .p01 0 0 0 [] with
      port := { (bench .p01 0 0 0 []).port with inst := 3 } }) = some (.rejInstance, 0) ∧
    answer (exec .tryProtectP04 { bench .p04 0x1234 0 0 [0x00, 0x01, 0x02] with
      cfg := { recommendedConfig with maxFrameLen := some 8 } }) = some (.rejLength, 0) := by
  decide +kernel

/-- The host's question: the word runs as the first command after reset. -/
theorem test_withFetchWord :
    answer (step (State.reset.withFetchWord 16 0x25FF)) = some (.done, 0x00004040) ∧
    answer (step (State.reset.withFetchWord 16 0x7100)) = some (.rejUnconstructed, 0) ∧
    answer (step (State.reset.withFetchWord 16 0x8100)) = some (.rejOpcode, 0) := by
  decide +kernel

/-- A power-on event unmakes the slots; a step with no event changes nothing. -/
theorem test_powerOn :
    slot0 (step { bench .p01 0 3 7 [] with events := [.powerOn] }) = some .powerOn ∧
    step State.reset = .next State.reset := ⟨by decide +kernel, rfl⟩

/-- R106's example lines as written. -/
theorem test_lineText :
    (Line.construct .p01 0 0x1234 none).text = "CONSTRUCT.P01 i0, id=0x1234" ∧
    (Line.crcStep .p01 0xFF 0x31).text = "CRC_STEP.P01 0xFF, 0x31" := by decide +kernel

/-- L3 program 4's first two CRC_STEP lines as CRC_BYTES. -/
theorem test_crcBytes :
    (crcBytes .p04 0xFFFFFFFF [0x31, 0x32] State.reset).1 = 0xB2AE168E := by decide +kernel

/-! ## Witnesses: concrete states and operands that meet the hypotheses of the statements -/

theorem next_of_answer {o : StepOutcome} {st : Status} {res : Word}
    (h : answer o = some (st, res)) : ∃ t, o = .next t ∧ t.resp = some ⟨st, res⟩ := by
  cases o with
  | next t =>
    obtain ⟨r, hr, he⟩ := Option.map_eq_some_iff.mp h
    obtain ⟨rfl, rfl⟩ := Prod.mk.inj he
    exact ⟨t, rfl, hr⟩
  | fault f => nomatch f
  | refused r => nomatch h

/-- s with all three tables built. -/
def built (s : State) : State :=
  { s with
    t01 := ⟨T01 s.cfg, true⟩
    t04 := ⟨T04 s.cfg, true⟩
    t05 := ⟨T05 s.cfg, true⟩ }

theorem wit_tablesOk_unbuilt (p : Profile) (d : Half) (pc cc : Nibble) (inp : List Byte) :
    (bench p d pc cc inp).tablesOk := ⟨nofun, nofun, nofun⟩

theorem wit_tablesOk_built (s : State) : (built s).tablesOk :=
  ⟨fun _ => rfl, fun _ => rfl, fun _ => rfl⟩

/-- The bench with its port changed: another INST, and MAX_FRAME_LEN m. -/
def benchAt (p : Profile) (k : Nat) (m : Option Nat) (inp : List Byte) : State :=
  { bench p 0x1234 0 0 inp with
    cfg := { recommendedConfig with maxFrameLen := m }
    port := { (bench p 0 0 0 inp).port with inst := k } }

/-- A command with OUT buffer 8. -/
def cmd (w : Half) (k : Nat) (inp : InArg) : Command := ⟨w, k, 0, inp, 8⟩

theorem wit_DecodeEncode :
    decode 0x45CC = .command (.computeCrcP05 0xCC) := by decide +kernel

theorem wit_LegalWords :
    (∃ r ∈ opcodeTable, (0x25FF : Half) &&& r.mask = r.pattern) ∧
    7 < ((0x8000 : Half) >>> 12).toNat ∧ 7 < ((0xFFFF : Half) >>> 12).toNat ∧
    (((0x7000 : Half) >>> 12).toNat ≤ 7 ∧ ((0x7000 : Half) >>> 8).toNat % 16 ≠ 1 ∧
      ((0x7000 : Half) >>> 8).toNat % 16 ≠ 4 ∧ ((0x7000 : Half) >>> 8).toNat % 16 ≠ 5) ∧
    (((0x0F00 : Half) >>> 12).toNat ≤ 7 ∧ ((0x0F00 : Half) >>> 8).toNat % 16 ≠ 1 ∧
      ((0x0F00 : Half) >>> 8).toNat % 16 ≠ 4 ∧ ((0x0F00 : Half) >>> 8).toNat % 16 ≠ 5) ∧
    (((0x0101 : Half) >>> 12).toNat ∈ [0, 1, 5, 6, 7] ∧
      ((0x0101 : Half) >>> 8).toNat % 16 ∈ [1, 4, 5] ∧ (0x0101 : Half).toNat % 256 ≠ 0) ∧
    (((0x75FF : Half) >>> 12).toNat ∈ [0, 1, 5, 6, 7] ∧
      ((0x75FF : Half) >>> 8).toNat % 16 ∈ [1, 4, 5] ∧ (0x75FF : Half).toNat % 256 ≠ 0) := by
  decide +kernel

/-- Two agents; agent 1's TABLE_READ.P05 0xFF comes first, then agent 0's INIT_TABLE.P01. -/
def twoAgents : State :=
  { State.reset with
    agents := [[cmd 0x1100 0 (.bytes [])], [cmd 0x25FF 0 (.bytes [])]]
    events := [.grant 1, .grant 0, .powerOn] }

theorem wit_StepRuns :
    twoAgents.events = .grant 1 :: [.grant 0, .powerOn] ∧
    twoAgents.agents[1]? = some (cmd 0x25FF 0 (.bytes []) :: []) ∧
    decode (cmd 0x25FF 0 (.bytes [])).word = .command (.tableReadP05 0xFF) := by decide +kernel

theorem wit_Interleavings :
    (∃ t, steps 2 twoAgents = some t) ∧ ∀ e ∈ twoAgents.events.take 2, e ≠ .powerOn := by
  have h : (steps 2 twoAgents).isSome = true := by decide +kernel
  exact ⟨Option.isSome_iff_exists.mp h, by decide⟩

theorem wit_PowerOn :
    ({ bench .p01 0 3 7 [] with events := [.powerOn, .grant 0] } : State).events =
      .powerOn :: [.grant 0] := rfl

theorem wit_EveryStepKeeps :
    (built (benchAt .p04 2 (some 7) payload)).Inv ∧
    ∃ t, step (built (benchAt .p04 2 (some 7) payload)) = .next t :=
  ⟨⟨wit_tablesOk_built _, by decide, by decide, by decide⟩, _, rfl⟩

theorem wit_ValidRises :
    (let s := (bench .p01 0 0 0 []).issue (cmd 0x1100 0 (.bytes []))
     s.tableValid .p01 = false ∧
      (match step s with
       | .next t => t.tableValid .p01
       | .fault _ => false
       | .refused _ => false) = true) ∧
    (let s : State := { built (bench .p05 0 0 0 []) with events := [.powerOn] }
     s.tableValid .p05 = true ∧ ∃ t, step s = .next t ∧ t.tableValid .p05 = false) :=
  ⟨by decide +kernel, rfl, _, rfl, rfl⟩

theorem wit_SlotsAreUnmade :
    let s : State := { bench .p04 9 3 7 [] with events := [.powerOn] }
    ∃ t sl tl, step s = .next t ∧ s.slots[0]? = some sl ∧ t.slots[0]? = some tl ∧
      sl.type ≠ .unconstructed ∧ tl.type = .unconstructed :=
  ⟨_, _, _, rfl, rfl, rfl, by decide, rfl⟩

/-- The bench with its tables built and other values in slot 2, which is UNCONSTRUCTED. -/
def benchOther : State :=
  { built (bench .p01 9 3 7 payload) with
    slots := [⟨.active .p01, 9, 1, 3, 7⟩, ⟨.active .p01, 9, 1, 0, 0⟩,
      ⟨.unconstructed, 0xABCD, 5, 14, 15⟩] }

theorem wit_Unspecified :
    (bench .p01 9 3 7 payload).tablesOk ∧ benchOther.tablesOk ∧
    (bench .p01 9 3 7 payload).observablySame benchOther ∧ bench .p01 9 3 7 payload ≠ benchOther ∧
    ∃ t, step (bench .p01 9 3 7 payload) = .next t :=
  ⟨wit_tablesOk_unbuilt _ _ _ _ _, ⟨fun _ => rfl, fun _ => rfl, fun _ => rfl⟩,
    ⟨rfl, .cons (.inl rfl) (.cons (.inl rfl) (.cons (.inr ⟨rfl, rfl⟩) .nil)), rfl, rfl, rfl, rfl,
      rfl⟩, fun h => Bool.false_ne_true (congrArg (fun s : State => s.t01.valid) h), _, rfl⟩

/-- The clauses of R301 where they meet: INST = N_INST; the last slot; one byte too many. -/
theorem wit_Admission :
    (benchAt .p01 3 none []).slots.length ≤ (benchAt .p01 3 none []).port.inst ∧
    (∃ sl, (benchAt .p01 2 none []).addressed = some sl ∧ sl.type = .unconstructed) ∧
    (∃ sl, (benchAt .p01 1 none []).addressed = some sl ∧ sl.type = .active .p01 ∧
      Profile.p01 ≠ Instr.checkP05.profile) ∧
    (∃ sl, (benchAt .p05 0 (some 7) (payload ++ payload)).addressed = some sl ∧
      sl.type = .active Instr.checkP05.profile ∧ 7 < (payload ++ payload).length) ∧
    (∃ sl, (benchAt .p04 0 (some 9) payload).addressed = some sl ∧
      sl.type = .active Instr.tryForwardP04.profile ∧ 9 < headerLen .p04 + payload.length) :=
  ⟨by decide, ⟨_, rfl, rfl⟩, ⟨_, rfl, rfl, by decide⟩, ⟨_, rfl, rfl, by decide⟩,
    ⟨_, rfl, rfl, by decide⟩⟩

theorem wit_Rejected :
    (∃ t, runPort { State.reset with port := cmd 0x8100 0 (.bytes []) } = .next t ∧
      t.resp = some ⟨.rejOpcode, 0⟩) ∧
    (∃ t, runPort { benchAt .p04 0 (some 9) payload with port := cmd 0x5400 0 (.bytes payload) } =
      .next t ∧ t.resp = some ⟨.rejLength, 0⟩) ∧
    0x80 ≤ Status.rejOpcode.code.toNat ∧ 0x80 ≤ Status.rejLength.code.toNat :=
  ⟨next_of_answer (by decide +kernel), next_of_answer (by decide +kernel), by decide, by decide⟩

/-- Every STATUS that a command gives is given. -/
theorem wit_Statuses :
    (∃ t, exec .initTableP04 State.reset = .next t ∧ t.resp = some ⟨.done, 0⟩) ∧
    (∃ t, exec .tryProtectP01 (bench .p01 0 0 0 payload) = .next t ∧
      t.resp = some ⟨.frameTrue, 0⟩) ∧
    (∃ t, exec .tryForwardP05 (bench .p05 0 0 0 []) = .next t ∧ t.resp = some ⟨.inputFalse, 0⟩) ∧
    (∃ t, exec .checkP01 (bench .p01 0 0 0 ([0x16, 0x01] ++ payload)) = .next t ∧
      t.resp = some ⟨.kOk, 0⟩) ∧
    (∃ t, exec .checkP01 (bench .p01 0 0 1 ([0x16, 0x01] ++ payload)) = .next t ∧
      t.resp = some ⟨.kRepeated, 0⟩) ∧
    (∃ t, exec .checkP01 (bench .p01 0 0 2 ([0x16, 0x01] ++ payload)) = .next t ∧
      t.resp = some ⟨.kWrongSequence, 0⟩) ∧
    (∃ t, exec .checkP01 (bench .p01 1 0 0 ([0x16, 0x01] ++ payload)) = .next t ∧
      t.resp = some ⟨.kWrongCrc, 0⟩) ∧
    (∃ t, exec .checkP04 (bench .p04 0 0 0 payload) = .next t ∧
      t.resp = some ⟨.kNoNewData, 0⟩) ∧
    (∃ t, exec .constructP04 (benchAt .p04 3 none []) = .next t ∧
      t.resp = some ⟨.rejInstance, 0⟩) ∧
    (∃ t, exec .checkP04 (benchAt .p04 2 none []) = .next t ∧
      t.resp = some ⟨.rejUnconstructed, 0⟩) ∧
    (∃ t, exec (.computeCrcP01 0) (benchAt .p04 1 none []) = .next t ∧
      t.resp = some ⟨.rejMismatch, 0⟩) ∧
    (∃ t, exec .tryForwardP04 (benchAt .p04 0 (some 9) payload) = .next t ∧
      t.resp = some ⟨.rejLength, 0⟩) :=
  ⟨next_of_answer (by decide +kernel), next_of_answer (by decide +kernel),
    next_of_answer (by decide +kernel), next_of_answer (by decide +kernel),
    next_of_answer (by decide +kernel), next_of_answer (by decide +kernel),
    next_of_answer (by decide +kernel), next_of_answer (by decide +kernel),
    next_of_answer (by decide +kernel), next_of_answer (by decide +kernel),
    next_of_answer (by decide +kernel), next_of_answer (by decide +kernel)⟩

theorem wit_Res :
    ∃ t, exec (.computeCrcP01 0x31) (bench .p01 0x1234 0 0 payload) = .next t ∧
      t.resp = some ⟨.done, 0x00000003⟩ ∧ (0x00000003 : Word) ≠ 0 := by
  obtain ⟨t, h, hr⟩ := next_of_answer (o := exec (.computeCrcP01 0x31)
    (bench .p01 0x1234 0 0 payload)) (st := .done) (res := 0x00000003) (by decide +kernel)
  exact ⟨t, h, hr, by decide⟩

/-- CONSTRUCT answered DONE on slot 0, seen at slot 0 and at the last slot. -/
theorem wit_Writers_construct :
    let s := withOpa 0x00FF4321 (bench .p01 0x1234 5 6 [])
    ∃ t sl sl2, exec .constructP04 s = .next t ∧ s.slots[0]? = some sl ∧ s.slots[2]? = some sl2 ∧
      t.resp = some ⟨.done, 0⟩ ∧ 0 = s.port.inst ∧ 2 ≠ s.port.inst ∧
      Instr.constructP04.op = .construct := ⟨_, _, _, rfl, rfl, rfl, rfl, rfl, by decide, rfl⟩

theorem wit_Writers_tryProtect :
    let s := bench .p01 0x1234 14 6 payload
    ∃ t sl, exec .tryProtectP01 s = .next t ∧ s.slots[0]? = some sl ∧
      t.resp = some ⟨.frameTrue, 0⟩ ∧ 0 = s.port.inst ∧ Instr.tryProtectP01.op = .tryProtect :=
  ⟨_, _, rfl, rfl, rfl, rfl, rfl⟩

theorem wit_Writers_tryForward :
    let s := bench .p05 0x1234 14 6 payload
    ∃ t sl, exec .tryForwardP05 s = .next t ∧ s.slots[0]? = some sl ∧
      t.resp = some ⟨.frameTrue, 0⟩ ∧ 0 = s.port.inst ∧ Instr.tryForwardP05.op = .tryForward :=
  ⟨_, _, rfl, rfl, rfl, rfl, rfl⟩

theorem wit_Writers_check :
    let s := bench .p01 1 0 0 ([0x16, 0x01] ++ payload)
    ∃ t sl, exec .checkP01 s = .next t ∧ s.slots[0]? = some sl ∧ Instr.checkP01.op = .check ∧
      0 = s.port.inst ∧ t.resp = some ⟨.kWrongCrc, 0⟩ ∧
      Status.isRejection .kWrongCrc = false ∧ Status.kWrongCrc ≠ .kNoNewData := by
  obtain ⟨t, h, hr⟩ := next_of_answer (o := exec .checkP01
    (bench .p01 1 0 0 ([0x16, 0x01] ++ payload))) (st := .kWrongCrc) (res := 0) (by decide +kernel)
  exact ⟨t, _, h, rfl, rfl, rfl, hr, rfl, by decide⟩

theorem wit_OnlyEmitted :
    (∃ t, exec .tryForwardP04 (bench .p04 7 1 2 payload) = .next t ∧
      t.resp = some ⟨.frameTrue, 0⟩) ∧
    (∃ t, exec .tryForwardP04 (bench .p04 7 1 2 []) = .next t ∧ t.resp = some ⟨.inputFalse, 0⟩) :=
  ⟨⟨_, rfl, rfl⟩, ⟨_, rfl, rfl⟩⟩

theorem wit_OwnUnits :
    (∃ t, exec (.crcStepP05 7) (bench .p05 0 0 0 []) = .next t) ∧
    Instr.op (.crcStepP05 7) ∈ [Operation.initTable, .tableRead, .crcStep, .computeCrc] ∧
    (∃ t, exec .constructP01 (bench .p05 0 0 0 []) = .next t) ∧
    Instr.constructP01.op = .construct := ⟨⟨_, rfl⟩, by decide, ⟨_, rfl⟩, rfl⟩

theorem wit_InitTable :
    Instr.initTableP01.op = .initTable ∧ Instr.initTableP04.op = .initTable ∧
    Instr.initTableP05.op = .initTable ∧ State.reset.tablesOk ∧ (built State.reset).tablesOk :=
  ⟨rfl, rfl, rfl, ⟨nofun, nofun, nofun⟩, wit_tablesOk_built _⟩

/-- For TABLE_READ, CRC_STEP and CRC_BYTES, built and unbuilt. -/
theorem wit_TableCommands :
    State.reset.tablesOk ∧ (built (withOpa 0xFFFFFFFF State.reset)).tablesOk ∧ payload ≠ [] :=
  ⟨⟨nofun, nofun, nofun⟩, wit_tablesOk_built _, by decide⟩

theorem wit_Reflect : 0 < 8 ∧ 7 < 8 ∧ 31 < 32 := by decide

theorem wit_Construct :
    Instr.constructP01.op = .construct ∧ Instr.constructP04.op = .construct ∧
    Instr.constructP05.op = .construct ∧
    (benchAt .p01 0 none []).port.inst < (benchAt .p01 0 none []).slots.length ∧
    (benchAt .p01 2 none []).port.inst < (benchAt .p01 2 none []).slots.length := by decide

theorem wit_ComputeCrc (p : Profile) :
    (Instr.of .computeCrc p 0xC5).op = .computeCrc ∧
    (benchAt p 1 (some 7) (payload ++ [1, 2, 3])).tablesOk ∧
    ∃ sl, (benchAt p 1 (some 7) (payload ++ [1, 2, 3])).admits
      (Instr.of .computeCrc p 0xC5).profile sl := by
  cases p <;> exact ⟨rfl, ⟨nofun, nofun, nofun⟩, _, rfl, rfl, rfl⟩

/-- Admission passes at the last slot that is constructed and at the longest frame. -/
theorem wit_TryProtect (p : Profile) :
    (Instr.of .tryProtect p 0).op = .tryProtect ∧
    (benchAt p 1 (some (headerLen p + 4)) payload).tablesOk ∧
    (∃ sl, (benchAt p 1 (some (headerLen p + 4)) payload).admitsOutput
      (Instr.of .tryProtect p 0).profile sl) ∧
    (benchAt p 1 (some (headerLen p + 4)) payload).input ≠ [] := by
  cases p <;> exact ⟨rfl, ⟨nofun, nofun, nofun⟩, ⟨_, ⟨rfl, rfl, rfl⟩, rfl⟩, by decide⟩

theorem wit_TryForward (p : Profile) :
    (Instr.of .tryForward p 0).op = .tryForward ∧ (built (bench p 7 14 15 payload)).tablesOk ∧
    (∃ sl, (built (bench p 7 14 15 payload)).admitsOutput (Instr.of .tryForward p 0).profile sl) ∧
    (built (bench p 7 14 15 payload)).input ≠ [] := by
  cases p <;> exact ⟨rfl, wit_tablesOk_built _, ⟨_, ⟨rfl, rfl, rfl⟩, rfl⟩, by decide⟩

theorem wit_EmptyInput (p : Profile) :
    (Instr.of .tryProtect p 0).op ∈ [Operation.tryProtect, .tryForward] ∧
    (Instr.of .tryForward p 0).op ∈ [Operation.tryProtect, .tryForward] ∧
    (∃ sl, (benchAt p 0 (some 7) []).admitsOutput p sl) ∧ (benchAt p 0 (some 7) []).input = [] := by
  cases p <;> exact ⟨by decide, by decide, ⟨_, ⟨rfl, rfl, rfl⟩, rfl⟩, rfl⟩

/-- A header alone, and nothing at all. -/
theorem wit_ShortBuffers (p : Profile) :
    (Instr.of .check p 0).op = .check ∧
    (∃ sl, (bench p 0 0 5 (List.replicate (headerLen p) 0xAA)).admits p sl) ∧
    (bench p 0 0 5 (List.replicate (headerLen p) 0xAA)).input.length < headerLen p + 1 ∧
    (∃ sl, (bench p 0 0 5 []).admits p sl) ∧ (bench p 0 0 5 []).input.length < headerLen p + 1 := by
  cases p <;> exact ⟨rfl, ⟨_, rfl, rfl, rfl⟩, by decide, ⟨_, rfl, rfl, rfl⟩, by decide⟩

/-- One payload byte. -/
theorem wit_Check (p : Profile) :
    (Instr.of .check p 0).op = .check ∧
    (bench p 0 0 5 (List.replicate (headerLen p + 1) 0xAA)).tablesOk ∧
    (∃ sl, (bench p 0 0 5 (List.replicate (headerLen p + 1) 0xAA)).admits p sl) ∧
    headerLen p + 1 ≤ (bench p 0 0 5 (List.replicate (headerLen p + 1) 0xAA)).input.length := by
  cases p <;> exact ⟨rfl, ⟨nofun, nofun, nofun⟩, ⟨_, rfl, rfl, rfl⟩, by decide⟩

/-- Two states that differ in PCNT, INST, the other slots and the tables. -/
theorem wit_CheckDepends :
    let fr : List Byte := [0x16, 0x01] ++ payload
    let s := built (bench .p01 0 13 0 fr)
    let t : State := { benchAt .p04 2 none fr with
      slots := [.powerOn, .powerOn, ⟨.active .p01, 0, 1, 2, 0⟩] }
    ∃ sl tl s' t', Instr.checkP01.op = .check ∧ s.tablesOk ∧ t.tablesOk ∧ s.cfg = t.cfg ∧
      s.addressed = some sl ∧ t.addressed = some tl ∧ sl.type = tl.type ∧ sl.dataId = tl.dataId ∧
      sl.maxDelta = tl.maxDelta ∧ sl.ccnt = tl.ccnt ∧ s.input = t.input ∧
      exec .checkP01 s = .next s' ∧ exec .checkP01 t = .next t' :=
  ⟨_, _, _, _, rfl, wit_tablesOk_built _, ⟨nofun, nofun, nofun⟩, rfl, rfl, rfl, rfl, rfl, rfl,
    rfl, rfl, rfl, rfl⟩

theorem wit_ProtectCounters (p : Profile) :
    let s := benchAt p 1 (some (headerLen p + 4)) payload
    ∃ sl, (Instr.of .tryProtect p 0).op = .tryProtect ∧ s.port.input = .bytes payload ∧
      payload ≠ [] ∧ s.admitsOutput (Instr.of .tryProtect p 0).profile sl ∧ sl.pcnt = 0 ∧ 0 < 1 := by
  cases p <;> exact ⟨_, rfl, rfl, by decide, ⟨⟨rfl, rfl, rfl⟩, rfl⟩, rfl, by decide⟩

theorem wit_CountersAbove :
    (let s := bench .p04 0x1234 3 15 payload
     ∃ t sl tl, exec .tryForwardP04 s = .next t ∧ s.slots[0]? = some sl ∧ t.slots[0]? = some tl ∧
      tl.type = .active .p04 ∧ (cmax .p04).toNat < tl.pcnt.toNat) ∧
    (let s := bench .p01 0x1234 15 3 payload
     ∃ t sl tl, exec (.computeCrcP01 0) s = .next t ∧ s.slots[0]? = some sl ∧
      t.slots[0]? = some tl ∧ tl.type = .active .p01 ∧ (cmax .p01).toNat < tl.pcnt.toNat) :=
  ⟨⟨_, _, _, rfl, rfl, rfl, rfl, by decide⟩, ⟨_, _, _, rfl, rfl, rfl, rfl, by decide⟩⟩

theorem wit_BufferWrites :
    Buffers.wf [(1, [0x0A]), (4, payload)] = true ∧ Buffers.wf [] = true ∧ (4 : Nat) ≠ 3 := by
  decide

/-- TRY_FORWARD on slot 0, then CHECK of buffer 7 by slot 1. -/
theorem wit_EmittedFrames (p : Profile) :
    let s := bench p 0x1234 3 9 payload
    let c := cmd 0 1 (.buffer 7)
    ∃ sl rl t, (Instr.of .tryForward p 0).op ∈ [Operation.tryProtect, .tryForward] ∧
      (Instr.of .tryProtect p 0).op ∈ [Operation.tryProtect, .tryForward] ∧
      (Instr.of .check p 0).op = .check ∧
      (Instr.of .check p 0).profile = (Instr.of .tryForward p 0).profile ∧ s.tablesOk ∧
      s.admitsOutput (Instr.of .tryForward p 0).profile sl ∧ s.input ≠ [] ∧
      exec (Instr.of .tryForward p 0) s = .next t ∧ c.input = .buffer s.port.out ∧
      t.slots[c.inst]? = some rl ∧ rl.type = .active (Instr.of .tryForward p 0).profile ∧
      rl.dataId = sl.dataId := by
  cases p <;> exact ⟨_, _, _, by decide, by decide, rfl, rfl, ⟨nofun, nofun, nofun⟩,
    ⟨⟨rfl, rfl, rfl⟩, rfl⟩, by decide, rfl, rfl, rfl, rfl, rfl⟩

theorem wit_FirstExchange (p : Profile) :
    let s := bench p 0x1234 0 0 payload
    let c := cmd 0 1 (.buffer 7)
    ∃ sl rl, (Instr.of .tryProtect p 0).op = .tryProtect ∧ (Instr.of .check p 0).op = .check ∧
      (Instr.of .check p 0).profile = (Instr.of .tryProtect p 0).profile ∧ s.tablesOk ∧
      s.admitsOutput (Instr.of .tryProtect p 0).profile sl ∧ s.input ≠ [] ∧
      c.inst ≠ s.port.inst ∧ s.slots[c.inst]? = some rl ∧
      rl.type = .active (Instr.of .tryProtect p 0).profile ∧ rl.dataId = sl.dataId ∧
      sl.pcnt = 0 ∧ rl.ccnt = 0 ∧ 1 ≤ rl.maxDelta.toNat ∧ c.input = .buffer s.port.out := by
  cases p <;> exact ⟨_, _, rfl, rfl, rfl, ⟨nofun, nofun, nofun⟩, ⟨⟨rfl, rfl, rfl⟩, rfl⟩,
    by decide, by decide, rfl, rfl, rfl, rfl, rfl, by decide, rfl⟩

/-- A frame with counter 14, CMAX, on which the resynchronised counter wraps. -/
theorem wit_Forwarding :
    let s := bench .p01 0 0 13 [0xC2, 0x0E, 0x12, 0x34]
    ∃ t sl, Instr.checkP01.op = .check ∧ Instr.tryForwardP01.op = .tryForward ∧
      Instr.tryProtectP01.op = .tryProtect ∧
      Instr.tryForwardP01.profile = Instr.checkP01.profile ∧
      Instr.tryProtectP01.profile = Instr.checkP01.profile ∧ s.tablesOk ∧
      s.admits Instr.checkP01.profile sl ∧ exec .checkP01 s = .next t ∧
      t.resp = some ⟨.kWrongCrc, 0⟩ ∧ Status.kWrongCrc ≠ .kNoNewData ∧
      (cmd 0 0 (.bytes payload)).inst = s.port.inst ∧
      (cmd 0 0 (.bytes payload)).input = .bytes payload ∧ payload ≠ [] ∧
      tooLong s.cfg.maxFrameLen (headerLen Instr.checkP01.profile + payload.length) = false := by
  obtain ⟨t, h, hr⟩ := next_of_answer (o := exec .checkP01
    (bench .p01 0 0 13 [0xC2, 0x0E, 0x12, 0x34])) (st := .kWrongCrc) (res := 0) (by decide +kernel)
  exact ⟨t, _, rfl, rfl, rfl, rfl, rfl, ⟨nofun, nofun, nofun⟩, ⟨rfl, rfl, rfl⟩, h, hr, by decide,
    rfl, rfl, by decide, rfl⟩

/-- A good frame of each profile (95_test_vectors.md L2.6). -/
def goodFrame : Profile → List Byte
  | .p01 => [0x16, 0x01] ++ payload
  | .p04 => [0x26, 0xB4, 0x1F, 0xD2, 0x01, 0x34] ++ payload
  | .p05 => [0x6B, 0x81, 0x01] ++ payload

/-- The DataID of that frame. -/
def goodId : Profile → Half
  | .p01 => 0
  | .p04 => 0x1234
  | .p05 => 0x1234

theorem wit_goodFrame (p : Profile) :
    crcOk recommendedConfig p (goodId p) (goodFrame p) := by
  cases p <;> unfold crcOk <;> decide +kernel

/-- The last byte, and the first byte, of the frame altered in one bit. -/
theorem wit_Tampering (p : Profile) :
    let fr := goodFrame p
    let s := bench p (goodId p) 0 0 (fr.set (headerLen p + 3) 0x79)
    let s0 := bench p (goodId p) 0 0 (fr.set 0 0xFE)
    ∃ sl sl0, (Instr.of .check p 0).op = .check ∧ polyOdd s.cfg (Instr.of .check p 0).profile ∧
      s.tablesOk ∧ s.admits (Instr.of .check p 0).profile sl ∧
      headerLen (Instr.of .check p 0).profile + 1 ≤ fr.length ∧
      crcOk s.cfg (Instr.of .check p 0).profile sl.dataId fr ∧
      headerLen p + 3 < fr.length ∧ (0x79 : Byte) ≠ fr.getD (headerLen p + 3) 0 ∧
      s.input = fr.set (headerLen p + 3) 0x79 ∧
      s0.admits (Instr.of .check p 0).profile sl0 ∧ 0 < fr.length ∧
      (0xFE : Byte) ≠ fr.getD 0 0 ∧ s0.input = fr.set 0 0xFE := by
  have h := wit_goodFrame p
  cases p <;> exact ⟨_, _, rfl, rfl, ⟨nofun, nofun, nofun⟩,
    ⟨rfl, rfl, rfl⟩, by decide, h, by decide, by decide, rfl, ⟨rfl, rfl, rfl⟩, by decide,
    by decide, rfl⟩

/-- Profile 05 at baseline 15: the frame with counter 0, then the one with counter 1. -/
theorem wit_Wrap :
    let fr0 : List Byte := [0x60, 0x34, 0x00] ++ payload
    let s := bench .p05 0 0 15 fr0
    ∃ fr sl, Instr.checkP05.op = .check ∧ s.tablesOk ∧ s.admits Instr.checkP05.profile sl ∧
      headerLen .p05 + 1 ≤ s.input.length ∧ crcOk s.cfg .p05 sl.dataId s.input ∧
      sl.ccnt = cmax .p05 ∧ frameCounter .p05 s.input = 0 ∧
      (cmd 0 0 (.bytes fr)).inst = s.port.inst ∧ headerLen .p05 + 1 ≤ fr.length ∧
      tooLong s.cfg.maxFrameLen fr.length = false ∧ crcOk s.cfg .p05 sl.dataId fr ∧
      frameCounter .p05 fr = 1 ∧ 1 ≤ sl.maxDelta.toNat :=
  ⟨[0x5D, 0xF4, 0x01] ++ payload, _, rfl, ⟨nofun, nofun, nofun⟩, ⟨rfl, rfl, rfl⟩, by decide,
    by (unfold crcOk; decide +kernel), rfl, by decide, rfl, by decide, rfl,
    by (unfold crcOk; decide +kernel), by decide, by decide⟩

theorem wit_Commute :
    let x := cmd 0 0 (.bytes payload)
    let y : Command := ⟨0, 1, 0, .bytes [0xFF], 9⟩
    let s := bench .p05 0x1234 0 0 []
    ∃ a b c d, x.inst ≠ y.inst ∧ x.out ≠ y.out ∧ s.buffers.wf = true ∧
      exec .tryProtectP05 { s with port := x } = .next a ∧
      exec .tryForwardP05 { a with port := y } = .next b ∧
      exec .tryForwardP05 { s with port := y } = .next c ∧
      exec .tryProtectP05 { c with port := x } = .next d :=
  ⟨_, _, _, _, by decide, by decide, rfl, rfl, rfl, rfl, rfl⟩

end Sys2Proof.Tests
end

section
/-! SUPPORT. Who writes what in a slot (10_state.md R35, R37, R38, R39): the
inversion lemma of all commands seen at one slot, and the statements that follow from it. -/

namespace Sys2Proof.Machine

/-- The outcomes after which a command of operation `o` has written no slot (10_state.md R41,
60_exceptions.md R300, R303, 42_counter_sequence.md R186 step 1). -/
inductive WritesNoSlot : Operation → Status → Prop where
  | rejected {o : Operation} {st : Status} (h : st.isRejection = true) : WritesNoSlot o st
  | slotless {o : Operation} (h : o ∈ [.initTable, .tableRead, .crcStep, .computeCrc]) :
    WritesNoSlot o .done
  | emptyInput {o : Operation} (h : o ∈ [.tryProtect, .tryForward]) : WritesNoSlot o .inputFalse
  | noNewData : WritesNoSlot .check .kNoNewData

/-- What a command of an operation, answered with a STATUS, makes of the addressed slot `sl` when it
writes it (10_state.md R35, R37, R38). -/
inductive SlotWrite (p : Profile) (s : State) (sl : Slot) : Operation → Status → Slot → Prop where
  | construct : SlotWrite p s sl .construct .done
      { type := .active p
        dataId := opaDataId s.port.opa
        maxDelta := opaMaxDelta s.port.opa
        pcnt := 0
        ccnt := 0 }
  | tryProtect (h : s.input ≠ []) :
    SlotWrite p s sl .tryProtect .frameTrue { sl with pcnt := counterInc sl.pcnt (cmax p) }
  | tryForward (h : s.input ≠ []) :
    SlotWrite p s sl .tryForward .frameTrue { sl with pcnt := sl.ccnt }
  | check (st : Status) : SlotWrite p s sl .check st { sl with ccnt := frameCounter p s.input }

/-- CONSTRUCT answered DONE has written its slot. -/
theorem not_writesNoSlot_construct : ¬ WritesNoSlot .construct .done
  | .rejected h => nomatch h
  | .slotless h => absurd h (by decide)

/-- A command answered TRUE has written its slot. -/
theorem not_writesNoSlot_frameTrue {o : Operation} : ¬ WritesNoSlot o .frameTrue
  | .rejected h => nomatch h

/-- A CHECK that wrote no slot was rejected or answered kNoNewData. -/
theorem WritesNoSlot.check_status {st : Status} (h : WritesNoSlot .check st) :
    st.isRejection = true ∨ st = .kNoNewData := by
  cases h with
  | rejected h => exact .inl h
  | slotless h => exact absurd h (by decide)
  | emptyInput h => exact absurd h (by decide)
  | noNewData => exact .inr rfl

/-- The slot bank of `t` is that of `s`, or has the addressed slot written. -/
def BankEffect (p : Profile) (o : Operation) (st : Status) (s t : State) : Prop :=
  (t.slots = s.slots ∧ WritesNoSlot o st) ∨
  (∃ sl tl, s.addressed = some sl ∧ t.slots = s.slots.set s.port.inst tl ∧
    SlotWrite p s sl o st tl)

theorem recvCounter_eq_frameCounter (p : Profile) (fr : List Byte) :
    recvCounter p fr = frameCounter p fr := by
  cases p <;> exact (BitVec.setWidth_eq_extractLsb' (by decide)).symm

theorem State.admission_error_isRejection {s : State} {p : Profile} {e : Nat} {st : Status}
    (h : s.admission p e = .error st) : st.isRejection = true := by
  rcases State.admit_error h with rfl | rfl | rfl | rfl <;> rfl

/-- The inversion lemma of all 24 commands, as far as the slot bank goes: unlike `Effect`, it says
which operation, answered with which STATUS, writes which value. -/
theorem exec_bankEffect (i : Instr) (s : State) :
    ∃ t st res, exec i s = .next t ∧ t.resp = some ⟨st, res⟩ ∧
      BankEffect i.profile i.op st s t := by
  rw [exec_eq_family]
  generalize i.profile = p
  generalize i.arg8 = a
  cases i.op with
  | construct =>
    rcases construct_cases p s with ⟨-, h⟩ | ⟨hk, h⟩
    · exact ⟨_, _, _, h, rfl, .inl ⟨rfl, .rejected rfl⟩⟩
    · exact ⟨_, _, _, h, rfl, .inr ⟨_, _, List.getElem?_eq_getElem hk, rfl, .construct⟩⟩
  | initTable => exact ⟨_, _, _, rfl, rfl, .inl ⟨by simp, .slotless (by simp)⟩⟩
  | tableRead => exact ⟨_, _, _, rfl, rfl, .inl ⟨by simp, .slotless (by simp)⟩⟩
  | crcStep => exact ⟨_, _, _, rfl, rfl, .inl ⟨by simp, .slotless (by simp)⟩⟩
  | computeCrc =>
    rcases computeCrc_cases p a s with ⟨st, he, h⟩ | ⟨sl, -, h⟩
    · exact ⟨_, _, _, h, rfl, .inl ⟨rfl, .rejected (State.admission_error_isRejection he)⟩⟩
    · exact ⟨_, _, _, h, rfl, .inl ⟨by simp, .slotless (by simp)⟩⟩
  | tryProtect =>
    rcases tryProtect_cases p s with ⟨st, he, h⟩ | ⟨sl, -, -, h⟩ | ⟨sl, ha, hn, h⟩
    · exact ⟨_, _, _, h, rfl, .inl ⟨rfl, .rejected (State.admission_error_isRejection he)⟩⟩
    · exact ⟨_, _, _, h, rfl, .inl ⟨rfl, .emptyInput (by simp)⟩⟩
    · exact ⟨_, _, _, h, rfl, .inr ⟨sl, _, ha.1.1, by simp, .tryProtect hn⟩⟩
  | tryForward =>
    rcases tryForward_cases p s with ⟨st, he, h⟩ | ⟨sl, -, -, h⟩ | ⟨sl, ha, hn, h⟩
    · exact ⟨_, _, _, h, rfl, .inl ⟨rfl, .rejected (State.admission_error_isRejection he)⟩⟩
    · exact ⟨_, _, _, h, rfl, .inl ⟨rfl, .emptyInput (by simp)⟩⟩
    · exact ⟨_, _, _, h, rfl, .inr ⟨sl, _, ha.1.1, by simp, .tryForward hn⟩⟩
  | check =>
    rcases check_cases p s with ⟨st, he, h⟩ | ⟨sl, -, -, h⟩ | ⟨sl, ha, -, h⟩
    · exact ⟨_, _, _, h, rfl, .inl ⟨rfl, .rejected (State.admission_error_isRejection he)⟩⟩
    · exact ⟨_, _, _, h, rfl, .inl ⟨rfl, .noNewData⟩⟩
    · rw [recvCounter_eq_frameCounter] at h
      exact ⟨_, _, _, h, rfl, .inr ⟨sl, _, ha.1, by simp, .check _⟩⟩

/-- What a command makes of one slot: slot `k` stays as it is, and if it is the addressed one the
outcome is one that writes none; or it is the addressed one and is written. -/
theorem exec_slot {i : Instr} {s t : State} {k : Nat} {sl : Slot} (h : exec i s = .next t)
    (hk : s.slots[k]? = some sl) :
    ∃ tl st res, t.slots[k]? = some tl ∧ t.resp = some ⟨st, res⟩ ∧
      ((tl = sl ∧ (k = s.port.inst → WritesNoSlot i.op st)) ∨
       (k = s.port.inst ∧ SlotWrite i.profile s sl i.op st tl)) := by
  obtain ⟨t', st, res, ht, hr, hb⟩ := exec_bankEffect i s
  obtain rfl : t' = t := by simpa [ht] using h
  rcases hb with ⟨hs, hn⟩ | ⟨sl', tl, ha, hs, hw⟩
  · exact ⟨sl, st, res, hs ▸ hk, hr, .inl ⟨rfl, fun _ => hn⟩⟩
  · by_cases hki : k = s.port.inst
    · subst hki
      obtain rfl : sl' = sl := Option.some.inj (ha.symm.trans hk)
      obtain ⟨hlt, -⟩ := List.getElem?_eq_some_iff.1 hk
      exact ⟨tl, st, res, by simp [hs, hlt], hr, .inr ⟨rfl, hw⟩⟩
    · exact ⟨sl, st, res, by simp [hs, Ne.symm hki, hk], hr, .inl ⟨rfl, (absurd · hki)⟩⟩

/-- Settles O17, by the writes of `exec_slot`: all but CONSTRUCT's are to a counter only. -/
theorem configurationIsWrittenByConstructOnly :
    Obligations.ConfigurationIsWrittenByConstructOnly := by
  intro i s t k sl h hk
  obtain ⟨tl, st, res, htl, -, ⟨rfl, -⟩ | ⟨hki, hw⟩⟩ := exec_slot h hk
  · exact ⟨tl, htl, fun _ => ⟨rfl, rfl, rfl⟩⟩
  · refine ⟨tl, htl, fun hne => ?_⟩
    generalize i.op = o at hw hne
    cases hw with
    | construct => exact absurd hki (hne.resolve_left (· rfl))
    | tryProtect _ => exact ⟨rfl, rfl, rfl⟩
    | tryForward _ => exact ⟨rfl, rfl, rfl⟩
    | check _ => exact ⟨rfl, rfl, rfl⟩

/-- Settles O18, by the writes of `exec_slot`; where it writes nothing, the STATUS is neither
CONSTRUCT's DONE nor a TRY command's TRUE. -/
theorem protectingCounterWriters : Obligations.ProtectingCounterWriters := by
  intro i s t k sl h hk
  obtain ⟨tl, st, res, htl, hr, hcase⟩ := exec_slot h hk
  refine ⟨tl, htl, ?_⟩
  generalize i.op = o at hcase ⊢
  simp only [hr, Option.some.injEq, forall_eq']
  rcases hcase with ⟨rfl, hn⟩ | ⟨hki, hw⟩
  · refine ⟨.inl rfl, fun hki => ⟨?_, ?_, ?_⟩⟩
    · rintro rfl rfl
      exact absurd (hn hki) not_writesNoSlot_construct
    · rintro - rfl
      exact absurd (hn hki) not_writesNoSlot_frameTrue
    · rintro - rfl
      exact absurd (hn hki) not_writesNoSlot_frameTrue
  · cases hw with
    | construct => simp [hki]
    | tryProtect hin => simp [hki, hin]
    | tryForward hin => simp [hki, hin]
    | check _ => simp

/-- Settles O19, by the writes of `exec_slot`; where it writes nothing, the STATUS is neither
CONSTRUCT's DONE nor one of CHECK's but kNoNewData. -/
theorem checkingCounterWriters : Obligations.CheckingCounterWriters := by
  intro i s t k sl h hk
  obtain ⟨tl, st, res, htl, hr, hcase⟩ := exec_slot h hk
  refine ⟨tl, htl, ?_⟩
  generalize i.op = o at hcase ⊢
  simp only [hr, Option.some.injEq, forall_eq']
  rcases hcase with ⟨rfl, hn⟩ | ⟨hki, hw⟩
  · refine ⟨.inl rfl, ?_, ?_⟩
    · rintro rfl hki rfl
      exact absurd (hn hki) not_writesNoSlot_construct
    · rintro rfl hki hrej hnew
      rcases (hn hki).check_status with h | h
      · simp [hrej] at h
      · exact absurd h hnew
  · cases hw with
    | construct => simp [hki]
    | tryProtect _ => simp
    | tryForward _ => simp
    | check _ => simp [hki]

end Sys2Proof.Machine
end

section
/-! SUPPORT. Command words and opcode_table.json (30_encoding.md R91 to R94, R99, R100): the rows of
the table are the pairs of an operation and a profile; matching a row, and every answer of the
decoder, is a statement about the fields OP, PROF and ARG8. -/

namespace Sys2Proof

/-! ## The fields of a word -/

theorem append_eq_append_iff {m n : Nat} {a c : BitVec m} {b d : BitVec n} :
    a ++ b = c ++ d ↔ a = c ∧ b = d := by
  constructor
  · intro h
    constructor
    · simpa only [BitVec.extractLsb'_append_eq_left] using congrArg (BitVec.extractLsb' n m) h
    · simpa only [BitVec.setWidth_append_eq_right] using congrArg (BitVec.setWidth n) h
  · rintro ⟨rfl, rfl⟩
    rfl

/-- The fields of R91 cover the word. -/
theorem fields_append (w : Half) : opField w ++ profField w ++ argField w = w :=
  calc opField w ++ profField w ++ argField w
    _ = w.extractLsb' 8 8 ++ w.extractLsb' 0 8 :=
      congrArg (· ++ argField w) (BitVec.extractLsb'_append_extractLsb'_eq_extractLsb' rfl)
    _ = w.extractLsb' 0 16 := BitVec.extractLsb'_append_extractLsb'_eq_extractLsb' rfl
    _ = w := BitVec.extractLsb'_eq_self

theorem toNat_opField (w : Half) : (opField w).toNat = (w >>> 12).toNat := by
  have h := w.isLt
  simp only [opField, BitVec.extractLsb'_toNat, BitVec.toNat_ushiftRight, Nat.shiftRight_eq_div_pow]
  omega

theorem toNat_profField (w : Half) : (profField w).toNat = (w >>> 8).toNat % 16 := by
  simp [profField]

theorem toNat_argField (w : Half) : (argField w).toNat = w.toNat % 256 := by
  simp [argField]

/-! ## The codes of operations and profiles -/

theorem decodeOp_eq_some_iff {x : BitVec 4} {o : Operation} :
    decodeOp x = some o ↔ x = opCode o := by
  revert x
  cases o <;> decide

theorem decodeProfile_eq_some_iff {x : BitVec 4} {p : Profile} :
    decodeProfile x = some p ↔ x = profCode p := by
  revert x
  cases p <;> decide

theorem decodeOp_eq_none_iff : ∀ {x : BitVec 4}, decodeOp x = none ↔ 7 < x.toNat := by
  decide

theorem decodeProfile_eq_none_iff :
    ∀ {x : BitVec 4}, decodeProfile x = none ↔ x.toNat ∉ [1, 4, 5] := by
  decide

theorem opCode_injective : Function.Injective opCode := fun _ _ h =>
  Option.some.inj ((decodeOp_eq_some_iff.2 rfl).symm.trans (decodeOp_eq_some_iff.2 h))

theorem profCode_injective : Function.Injective profCode := fun _ _ h =>
  Option.some.inj ((decodeProfile_eq_some_iff.2 rfl).symm.trans (decodeProfile_eq_some_iff.2 h))

theorem exists_opCode {x : BitVec 4} (h : x.toNat ≤ 7) : ∃ o, x = opCode o := by
  obtain ⟨o, ho⟩ := Option.ne_none_iff_exists'.1 (mt decodeOp_eq_none_iff.1 (Nat.not_lt.2 h))
  exact ⟨o, decodeOp_eq_some_iff.1 ho⟩

theorem exists_profCode {x : BitVec 4} (h : x.toNat ∈ [1, 4, 5]) : ∃ p, x = profCode p := by
  obtain ⟨p, hp⟩ := Option.ne_none_iff_exists'.1 (mt decodeProfile_eq_none_iff.1 (not_not.2 h))
  exact ⟨p, decodeProfile_eq_some_iff.1 hp⟩

/-- R94's OP values whose ARG8 is reserved. -/
theorem exists_opCode_of_reservesArg {x : BitVec 4} (h : x.toNat ∈ [0, 1, 5, 6, 7]) :
    ∃ o, x = opCode o ∧ o.reservesArg = true := by
  have hle : x.toNat ≤ 7 :=
    (by decide : ∀ n ∈ [0, 1, 5, 6, 7], n ≤ 7) _ h
  obtain ⟨o, rfl⟩ := exists_opCode hle
  exact ⟨o, rfl, by revert h; cases o <;> decide⟩

/-! ## Answers of the decoder -/

/-- The fields of `w` are those of a command of operation `o` and profile `p` (R92, R93, R94). -/
structure IsWordOf (o : Operation) (p : Profile) (w : Half) : Prop where
  op : opField w = opCode o
  prof : profField w = profCode p
  arg : o.reservesArg = true → argField w = 0#8

theorem decode_of_reserved_op {w : Half} (h : 7 < (opField w).toNat) :
    decode w = .illegal .opcode := by
  simp [decode, decodeOp_eq_none_iff.2 h]

theorem decode_of_reserved_prof {w : Half} {o : Operation} (ho : opField w = opCode o)
    (h : (profField w).toNat ∉ [1, 4, 5]) : decode w = .illegal .profile := by
  simp [decode, decodeOp_eq_some_iff.2 ho, decodeProfile_eq_none_iff.2 h]

/-- The last test of the decoder, on a word whose OP and PROF are not reserved. -/
theorem decode_of_codes {w : Half} {o : Operation} {p : Profile} (ho : opField w = opCode o)
    (hp : profField w = profCode p) :
    decode w = if o.reservesArg ∧ argField w ≠ 0#8 then .illegal .arg
      else .command (Instr.of o p (argField w)) := by
  simp [decode, decodeOp_eq_some_iff.2 ho, decodeProfile_eq_some_iff.2 hp]

theorem IsWordOf.decode {o : Operation} {p : Profile} {w : Half} (h : IsWordOf o p w) :
    decode w = .command (Instr.of o p (argField w)) :=
  (decode_of_codes h.op h.prof).trans (if_neg fun hc => hc.2 (h.arg hc.1))

theorem isWordOf_of_decode {w : Half} {i : Instr} (h : decode w = .command i) :
    ∃ o p, IsWordOf o p w := by
  by_cases hop : 7 < (opField w).toNat
  · simp [decode_of_reserved_op hop] at h
  obtain ⟨o, ho⟩ := exists_opCode (Nat.not_lt.1 hop)
  by_cases hprof : (profField w).toNat ∈ [1, 4, 5]
  · obtain ⟨p, hp⟩ := exists_profCode hprof
    refine ⟨o, p, ho, hp, fun hr => ?_⟩
    by_contra ha
    simp [decode_of_codes ho hp, hr, ha] at h
  · simp [decode_of_reserved_prof ho hprof] at h

/-! ## Rows of the table -/

/-- The name of an operation in opcode_table.json (R92). -/
def Operation.mnemonic : Operation → String
  | .construct => "CONSTRUCT"
  | .initTable => "INIT_TABLE"
  | .tableRead => "TABLE_READ"
  | .crcStep => "CRC_STEP"
  | .computeCrc => "COMPUTE_CRC"
  | .tryProtect => "TRY_PROTECT"
  | .tryForward => "TRY_FORWARD"
  | .check => "CHECK"

/-- The row of an operation and a profile: it fixes OP and PROF, and ARG8 where that is reserved
(R91). -/
def OpcodeRow.of (o : Operation) (p : Profile) : OpcodeRow where
  mnemonic := o.mnemonic ++ Machine.profileText p
  mask := BitVec.allOnes 4 ++ BitVec.allOnes 4 ++ if o.reservesArg then BitVec.allOnes 8 else 0#8
  pattern := opCode o ++ profCode p ++ 0#8

theorem opcodeTable_eq_rows :
    opcodeTable =
      [.construct, .initTable, .tableRead, .crcStep, .computeCrc, .tryProtect, .tryForward,
        .check].flatMap fun o => [.p01, .p04, .p05].map (OpcodeRow.of o) := by
  decide +kernel

theorem mem_opcodeTable_iff {r : OpcodeRow} : r ∈ opcodeTable ↔ ∃ o p, r = OpcodeRow.of o p := by
  rw [opcodeTable_eq_rows]
  constructor
  · intro h
    obtain ⟨o, -, hr⟩ := List.mem_flatMap.1 h
    obtain ⟨p, -, rfl⟩ := List.mem_map.1 hr
    exact ⟨o, p, rfl⟩
  · rintro ⟨o, p, rfl⟩
    exact List.mem_flatMap.2 ⟨o, by cases o <;> decide, List.mem_map_of_mem (by cases p <;> decide)⟩

theorem and_mask_of (w : Half) (o : Operation) (p : Profile) :
    w &&& (OpcodeRow.of o p).mask =
      opField w ++ profField w ++ if o.reservesArg then argField w else 0#8 := by
  conv_lhs => rw [← fields_append w, OpcodeRow.of]
  rw [BitVec.and_append, BitVec.and_append, BitVec.and_allOnes, BitVec.and_allOnes]
  cases o.reservesArg with
  | false => exact congrArg (_ ++ ·) BitVec.and_zero
  | true => exact congrArg (_ ++ ·) BitVec.and_allOnes

theorem matches_of_iff {o : Operation} {p : Profile} {w : Half} :
    w &&& (OpcodeRow.of o p).mask = (OpcodeRow.of o p).pattern ↔ IsWordOf o p w := by
  rw [and_mask_of, OpcodeRow.of, append_eq_append_iff, append_eq_append_iff]
  constructor
  · rintro ⟨⟨ho, hp⟩, ha⟩
    exact ⟨ho, hp, fun hr => by simpa [hr] using ha⟩
  · rintro ⟨ho, hp, ha⟩
    exact ⟨⟨ho, hp⟩, by simpa using ha⟩

theorem exists_row_iff {w : Half} :
    (∃ r ∈ opcodeTable, w &&& r.mask = r.pattern) ↔ ∃ o p, IsWordOf o p w := by
  constructor
  · rintro ⟨r, hr, h⟩
    obtain ⟨o, p, rfl⟩ := mem_opcodeTable_iff.1 hr
    exact ⟨o, p, matches_of_iff.1 h⟩
  · rintro ⟨o, p, h⟩
    exact ⟨_, mem_opcodeTable_iff.2 ⟨o, p, rfl⟩, matches_of_iff.2 h⟩

/-- Two rows that fix the same OP and PROF are the same row. -/
theorem row_unique {w : Half} {r q : OpcodeRow} (hr : r ∈ opcodeTable) (hq : q ∈ opcodeTable)
    (hwr : w &&& r.mask = r.pattern) (hwq : w &&& q.mask = q.pattern) : r = q := by
  obtain ⟨o, p, rfl⟩ := mem_opcodeTable_iff.1 hr
  obtain ⟨o', p', rfl⟩ := mem_opcodeTable_iff.1 hq
  have h := matches_of_iff.1 hwr
  have h' := matches_of_iff.1 hwq
  rw [opCode_injective (h.op.symm.trans h'.op), profCode_injective (h.prof.symm.trans h'.prof)]

end Sys2Proof

namespace Sys2Proof.Machine

theorem runPort_of_illegal {s : State} {r : Illegal} (h : decode s.port.word = .illegal r) :
    runPort s = .next { s with resp := some ⟨illegalStatus r, 0⟩ } := by
  simp [runPort, h, reject, State.respond]

/-- Settles O2: matching a row and decoding to a command both mean `IsWordOf` of some operation and
profile, and the rejections are the decoder's three tests. -/
theorem legalWordsAreTheTableRows : Obligations.LegalWordsAreTheTableRows := by
  refine ⟨fun w => ?_, fun w r q hr hq hwr hwq => row_unique hr hq hwr hwq, fun s hop => ?_,
    fun s hop hprof => ?_, fun s hop hprof harg => ?_⟩
  · rw [exists_row_iff]
    exact ⟨fun ⟨_, h⟩ => isWordOf_of_decode h, fun ⟨_, _, h⟩ => ⟨_, h.decode⟩⟩
  · rw [← toNat_opField] at hop
    exact runPort_of_illegal (decode_of_reserved_op hop)
  · rw [← toNat_opField] at hop
    rw [← toNat_profField] at hprof
    obtain ⟨o, ho⟩ := exists_opCode hop
    exact runPort_of_illegal (decode_of_reserved_prof ho (by simpa using hprof))
  · rw [← toNat_opField] at hop
    rw [← toNat_profField] at hprof
    obtain ⟨o, ho, hr⟩ := exists_opCode_of_reservesArg hop
    obtain ⟨p, hp⟩ := exists_profCode hprof
    have ha : argField s.port.word ≠ 0#8 := fun h => harg (by rw [← toNat_argField, h]; rfl)
    exact runPort_of_illegal ((decode_of_codes ho hp).trans (if_pos ⟨hr, ha⟩))

end Sys2Proof.Machine
end

section
/-! SUPPORT. The CRC table generator (40_crc_table.md R130 to R133): reflection is the library's
reversal of the bits; the two shift-and-XOR steps, and so the table entries, are linear over XOR;
a single bit that leaves the register at the last of its shifts leaves the polynomial behind. -/

namespace Sys2Proof.Machine

/-! ## Reflection -/

/-- The first `n` rounds of the loop of `Reflect_W` (R130). -/
def reflectRounds {w : Nat} (v : BitVec w) (n : Nat) : BitVec w :=
  (List.range n).foldl
    (fun r i => if v.getLsbD i then r ||| (1#w <<< (w - 1 - i)) else r) 0#w

theorem reflect_eq_reflectRounds {w : Nat} (v : BitVec w) : reflect v = reflectRounds v w := rfl

theorem reflectRounds_succ {w : Nat} (v : BitVec w) (n : Nat) :
    reflectRounds v (n + 1) =
      if v.getLsbD n then reflectRounds v n ||| BitVec.twoPow w (w - 1 - n)
      else reflectRounds v n := by
  simp [reflectRounds, List.range_succ, BitVec.twoPow_eq]

/-- Round `n` sets bit `w - 1 - n` if bit `n` of `v` is set, and no other bit. -/
theorem getLsbD_reflectRounds_succ {w : Nat} (v : BitVec w) (n : Nat) {j : Nat} (hj : j < w) :
    (reflectRounds v (n + 1)).getLsbD j =
      ((reflectRounds v n).getLsbD j || v.getLsbD n && decide (w - 1 - n = j)) := by
  have hbit : (BitVec.twoPow w (w - 1 - n)).getLsbD j = decide (w - 1 - n = j) := by
    rw [BitVec.getLsbD_twoPow, decide_eq_true (by omega : w - 1 - n < w), Bool.true_and]
  rw [reflectRounds_succ]
  cases v.getLsbD n with
  | false => simp
  | true => simp only [if_true, BitVec.getLsbD_or, hbit, Bool.true_and]

/-- The first `n` rounds have filled the top `n` bits. -/
theorem getLsbD_reflectRounds {w : Nat} (v : BitVec w) {n j : Nat} (hn : n ≤ w) (hj : j < w) :
    (reflectRounds v n).getLsbD j = (decide (w - 1 - j < n) && v.getLsbD (w - 1 - j)) := by
  induction n with
  | zero => simp [reflectRounds]
  | succ n ih =>
    rw [getLsbD_reflectRounds_succ v n hj, ih (by omega)]
    by_cases hjn : w - 1 - j = n
    · have hbit : w - 1 - n = j := by omega
      simp [hjn, hbit]
    · have hbit : w - 1 - n ≠ j := by omega
      have hlt : w - 1 - j < n + 1 ↔ w - 1 - j < n := by omega
      simp [hbit, hlt]

theorem reflect_eq_reverse {w : Nat} (v : BitVec w) : reflect v = v.reverse := by
  refine BitVec.eq_of_getLsbD_eq fun j hj => ?_
  have hlt : w - 1 - j < w := by omega
  rw [reflect_eq_reflectRounds, getLsbD_reflectRounds v le_rfl hj, BitVec.getLsbD_reverse,
    BitVec.getMsbD_eq_getLsbD]
  simp only [hlt, hj]

theorem getLsbD_reflect {w : Nat} (v : BitVec w) {i : Nat} (hi : i < w) :
    (reflect v).getLsbD (w - 1 - i) = v.getLsbD i := by
  have hlt : w - 1 - i < w := by omega
  have hback : w - 1 - (w - 1 - i) = i := by omega
  rw [reflect_eq_reverse, BitVec.getLsbD_reverse, BitVec.getMsbD_eq_getLsbD, hback,
    decide_eq_true hlt, Bool.true_and]

@[simp] theorem reflect_reflect {w : Nat} (v : BitVec w) : reflect (reflect v) = v := by
  rw [reflect_eq_reverse, reflect_eq_reverse, BitVec.reverse_reverse_eq]

/-- Settles O26: `reflect` is the library's reversal of the bits. -/
theorem reflectReversesTheBits : Obligations.ReflectReversesTheBits :=
  ⟨fun _ v _ => getLsbD_reflect v, fun _ => reflect_reflect, by decide, by decide, by decide⟩

/-! ## Linearity over XOR -/

/-- The conditional XOR of R131 is linear in the register and the outgoing bit together. -/
theorem condXor_xor {w : Nat} (p x y : BitVec w) (a b : Bool) :
    (if a ^^ b then (x ^^^ y) ^^^ p else x ^^^ y) =
      (if a then x ^^^ p else x) ^^^ (if b then y ^^^ p else y) := by
  cases a <;> cases b
  case false.false => rfl
  case false.true => exact BitVec.xor_assoc x y p
  case true.false => simp [BitVec.xor_assoc, BitVec.xor_comm y p]
  case true.true =>
    calc x ^^^ y
      _ = (x ^^^ y) ^^^ (p ^^^ p) := by simp
      _ = (x ^^^ p) ^^^ (y ^^^ p) := by ac_rfl

theorem shiftMsb_xor {w : Nat} (poly : BitVec w) :
    Function.Semiconj₂ (shiftMsb poly) (· ^^^ ·) (· ^^^ ·) := fun c d => by
  simpa only [shiftMsb, BitVec.msb_xor, BitVec.shiftLeft_xor_distrib] using
    condXor_xor poly (c <<< 1) (d <<< 1) c.msb d.msb

theorem shiftLsb_xor {w : Nat} (p : BitVec w) :
    Function.Semiconj₂ (shiftLsb p) (· ^^^ ·) (· ^^^ ·) := fun c d => by
  simpa only [shiftLsb, BitVec.getLsbD_xor, BitVec.ushiftRight_xor_distrib] using
    condXor_xor p (c >>> 1) (d >>> 1) (c.getLsbD 0) (d.getLsbD 0)

theorem buildEntry_xor {w : Nat} (poly : BitVec w) (refl : Bool) (a b : Byte) :
    buildEntry poly refl (a ^^^ b) = buildEntry poly refl a ^^^ buildEntry poly refl b := by
  cases refl with
  | false =>
    simpa [buildEntry, BitVec.shiftLeft_xor_distrib] using (shiftMsb_xor poly).iterate 8 _ _
  | true => simpa [buildEntry] using (shiftLsb_xor (reflect poly)).iterate 8 _ _

theorem buildEntry_zero {w : Nat} (poly : BitVec w) (refl : Bool) :
    buildEntry poly refl 0 = 0 := by
  simpa using buildEntry_xor poly refl 0 0

/-! ## A single bit in the register -/

theorem twoPow_shiftLeft_one (w k : Nat) :
    BitVec.twoPow w k <<< 1 = BitVec.twoPow w (k + 1) := by
  rw [BitVec.twoPow_eq, BitVec.twoPow_eq, BitVec.shiftLeft_add]

theorem twoPow_succ_ushiftRight_one {w k : Nat} (h : k + 1 < w) :
    BitVec.twoPow w (k + 1) >>> 1 = BitVec.twoPow w k := by
  refine BitVec.eq_of_getLsbD_eq fun j _ => ?_
  have hk : k < w := by omega
  simp only [BitVec.getLsbD_ushiftRight, BitVec.getLsbD_twoPow, h, hk, Nat.add_comm 1 j,
    Nat.add_right_cancel_iff]

theorem shiftMsb_twoPow {w k : Nat} (poly : BitVec w) (h : k + 1 < w) :
    shiftMsb poly (BitVec.twoPow w k) = BitVec.twoPow w (k + 1) := by
  have hk : k ≠ w - 1 := by omega
  simp [shiftMsb, BitVec.msb_twoPow, hk, twoPow_shiftLeft_one]

theorem shiftMsb_twoPow_top {w : Nat} (poly : BitVec w) (h : 0 < w) :
    shiftMsb poly (BitVec.twoPow w (w - 1)) = poly := by
  have hout : BitVec.twoPow w (w - 1) <<< 1 = 0#w := by
    rw [twoPow_shiftLeft_one, Nat.sub_add_cancel h]
    exact BitVec.eq_of_toNat_eq (BitVec.toNat_twoPow_of_le le_rfl)
  simp [shiftMsb, BitVec.msb_twoPow, h, hout]

theorem shiftLsb_twoPow_succ {w k : Nat} (p : BitVec w) (h : k + 1 < w) :
    shiftLsb p (BitVec.twoPow w (k + 1)) = BitVec.twoPow w k := by
  simp [shiftLsb, BitVec.getLsbD_twoPow, twoPow_succ_ushiftRight_one h]

theorem shiftLsb_twoPow_zero {w : Nat} (p : BitVec w) (h : 0 < w) :
    shiftLsb p (BitVec.twoPow w 0) = p := by
  have hout : BitVec.twoPow w 0 >>> 1 = 0#w :=
    BitVec.eq_of_getLsbD_eq fun j _ => by simp; omega
  simp [shiftLsb, h, hout]

/-- A bit `k` places below the top leaves the MSB-first register at shift `k + 1`. -/
theorem shiftMsb_iterate_twoPow {w k : Nat} (poly : BitVec w) (h : k < w) :
    (shiftMsb poly)^[k + 1] (BitVec.twoPow w (w - 1 - k)) = poly := by
  induction k with
  | zero => exact shiftMsb_twoPow_top poly h
  | succ k ih =>
    rw [Function.iterate_succ_apply, shiftMsb_twoPow poly (by omega),
      show w - 1 - (k + 1) + 1 = w - 1 - k by omega, ih (by omega)]

/-- Bit `k` leaves the LSB-first register at shift `k + 1`. -/
theorem shiftLsb_iterate_twoPow {w k : Nat} (p : BitVec w) (h : k < w) :
    (shiftLsb p)^[k + 1] (BitVec.twoPow w k) = p := by
  induction k with
  | zero => exact shiftLsb_twoPow_zero p h
  | succ k ih => rw [Function.iterate_succ_apply, shiftLsb_twoPow_succ p h, ih (by omega)]

theorem buildEntry_msb_one {w : Nat} (poly : BitVec w) (h : 8 ≤ w) :
    buildEntry poly false 0x01 = poly := by
  have hin : (0x01#8).setWidth w <<< (w - 8) = BitVec.twoPow w (w - 1 - 7) := by
    rw [BitVec.twoPow_eq, BitVec.setWidth_ofNat_one_eq_ofNat_one_of_lt (by decide), Nat.sub_sub]
  exact (congrArg _ hin).trans (shiftMsb_iterate_twoPow poly (by omega))

theorem buildEntry_lsb_top {w : Nat} (poly : BitVec w) (h : 8 ≤ w) :
    buildEntry poly true 0x80 = reflect poly := by
  have hin : (0x80#8).setWidth w = BitVec.twoPow w 7 :=
    BitVec.eq_of_toNat_eq (by simp [BitVec.toNat_twoPow])
  exact (congrArg _ hin).trans (shiftLsb_iterate_twoPow (reflect poly) (by omega))

/-- Settles O25: entries are linear because the shifts are, and the two named entries hold the
polynomial because their one bit leaves at the eighth shift. -/
theorem tablesAreLinear : Obligations.TablesAreLinear := by
  unfold Obligations.TablesAreLinear T01 T04 T05
  simp only [entry_buildTable]
  obtain ⟨-, -, -, hrefl16, hrefl32⟩ := reflectReversesTheBits
  exact ⟨fun w poly refl => ⟨buildEntry_zero poly refl, buildEntry_xor poly refl⟩,
    fun poly => buildEntry_msb_one poly (by decide),
    fun poly => buildEntry_lsb_top poly (by decide),
    fun poly => buildEntry_lsb_top poly (by decide),
    fun poly => buildEntry_lsb_top poly (by decide),
    buildEntry_msb_one _ (by decide),
    (buildEntry_lsb_top _ (by decide)).trans hrefl32,
    (buildEntry_lsb_top _ (by decide)).trans hrefl16⟩

end Sys2Proof.Machine
end

section
/-! SUPPORT. The CRC datapaths (41_crc_datapaths.md R150 to R160): zero bits at the outgoing end
only leave, so eight shifts of a register shift it by eight places and XOR in the table entry of the
byte at that end; CrcRun over a built table is then the run of the bitwise shift register. -/

namespace Sys2Proof.Machine

/-! ## Registers whose outgoing bits are zero -/

theorem shiftLsb_iterate_of_low_zero {w n : Nat} (p : BitVec w) {c : BitVec w}
    (h : ∀ i < n, c.getLsbD i = false) : (shiftLsb p)^[n] c = c >>> n := by
  induction n with
  | zero => simp
  | succ n ih =>
    have hout : (c >>> n).getLsbD 0 = false := by simpa using h n (Nat.lt_succ_self n)
    rw [Function.iterate_succ_apply', ih fun i hi => h i (Nat.lt_succ_of_lt hi), shiftLsb, hout,
      if_neg Bool.false_ne_true, ← BitVec.shiftRight_add]

theorem shiftMsb_iterate_of_high_zero {w n : Nat} (poly : BitVec w) {c : BitVec w}
    (h : ∀ i < n, c.getMsbD i = false) : (shiftMsb poly)^[n] c = c <<< n := by
  induction n with
  | zero => simp
  | succ n ih =>
    have hout : (c <<< n).msb = false := by
      simpa [BitVec.msb] using h n (Nat.lt_succ_self n)
    rw [Function.iterate_succ_apply', ih fun i hi => h i (Nat.lt_succ_of_lt hi), shiftMsb, hout,
      if_neg Bool.false_ne_true, ← BitVec.shiftLeft_add]

/-! ## The outgoing bits decide what is XORed in -/

/-- Two LSB-first registers with the same low `n` bits take in the same polynomials. -/
theorem shiftLsb_iterate_of_low_eq {w n : Nat} (p : BitVec w) {c d : BitVec w}
    (h : ∀ i < n, c.getLsbD i = d.getLsbD i) :
    (shiftLsb p)^[n] c = (c ^^^ d) >>> n ^^^ (shiftLsb p)^[n] d := by
  have hzero : ∀ i < n, (c ^^^ d).getLsbD i = false := fun i hi => by simp [h i hi]
  calc (shiftLsb p)^[n] c
    _ = (shiftLsb p)^[n] ((c ^^^ d) ^^^ d) := by simp
    _ = (shiftLsb p)^[n] (c ^^^ d) ^^^ (shiftLsb p)^[n] d := (shiftLsb_xor p).iterate n _ _
    _ = (c ^^^ d) >>> n ^^^ (shiftLsb p)^[n] d := by rw [shiftLsb_iterate_of_low_zero p hzero]

/-- Two MSB-first registers with the same high `n` bits take in the same polynomials. -/
theorem shiftMsb_iterate_of_high_eq {w n : Nat} (poly : BitVec w) {c d : BitVec w}
    (h : ∀ i < n, c.getMsbD i = d.getMsbD i) :
    (shiftMsb poly)^[n] c = (c ^^^ d) <<< n ^^^ (shiftMsb poly)^[n] d := by
  have hzero : ∀ i < n, (c ^^^ d).getMsbD i = false := fun i hi => by simp [h i hi]
  calc (shiftMsb poly)^[n] c
    _ = (shiftMsb poly)^[n] ((c ^^^ d) ^^^ d) := by simp
    _ = (shiftMsb poly)^[n] (c ^^^ d) ^^^ (shiftMsb poly)^[n] d := (shiftMsb_xor poly).iterate n _ _
    _ = (c ^^^ d) <<< n ^^^ (shiftMsb poly)^[n] d := by
      rw [shiftMsb_iterate_of_high_zero poly hzero]

/-! ## The table step is the bitwise step -/

/-- A byte put in at the low end is gone after eight right shifts. -/
theorem byte_setWidth_ushiftRight {w : Nat} (b : Byte) : b.setWidth w >>> 8 = 0#w :=
  BitVec.eq_of_getLsbD_eq fun j _ => by
    simp [BitVec.getLsbD_ushiftRight]

/-- A byte put in at the high end is gone after eight left shifts. -/
theorem byte_setWidth_top_shiftLeft {w : Nat} (b : Byte) :
    b.setWidth w <<< (w - 8) <<< 8 = 0#w := by
  rw [← BitVec.shiftLeft_add]
  exact BitVec.shiftLeft_eq_zero (by omega)

theorem stepLsb_buildTable {w : Nat} (poly c : BitVec w) (b : Byte) :
    stepLsb (buildTable poly true) c b = bitStep poly true c b := by
  have hlow : ∀ i < 8, (c ^^^ b.setWidth w).getLsbD i =
      (((c ^^^ b.setWidth w).setWidth 8).setWidth w).getLsbD i := fun i hi => by
    simpa [hi] using BitVec.lt_of_getLsbD
  simp [stepLsb, bitStep, buildEntry, shiftLsb_iterate_of_low_eq _ hlow,
    BitVec.ushiftRight_xor_distrib, byte_setWidth_ushiftRight]

theorem stepMsb_buildTable {w : Nat} (poly c : BitVec w) (b : Byte) :
    stepMsb (buildTable poly false) c b = bitStep poly false c b := by
  have hhigh : ∀ i < 8, (c ^^^ b.setWidth w <<< (w - 8)).getMsbD i =
      ((((c >>> (w - 8)) ^^^ b.setWidth w).setWidth 8).setWidth w <<< (w - 8)).getMsbD i :=
    fun i hi => by
      by_cases hiw : i < w
      · have hlt : w - 1 - i < w := by omega
        have htop : ¬ w - 1 - i < w - 8 := by omega
        have hbyte : w - 1 - i - (w - 8) < 8 := by omega
        have hin : w - 1 - i - (w - 8) < w := by omega
        have hback : w - 8 + (w - 1 - i - (w - 8)) = w - 1 - i := by omega
        simp [BitVec.getMsbD_eq_getLsbD, hiw, hlt, htop, hbyte, hin, hback]
      · simp [BitVec.getMsbD_eq_getLsbD, hiw]
  simp [stepMsb, bitStep, buildEntry, shiftMsb_iterate_of_high_eq _ hhigh,
    BitVec.shiftLeft_xor_distrib, byte_setWidth_top_shiftLeft]

/-- R154 at every width: the entry read is that of the eight outgoing bits. -/
theorem crcStep_buildTable {w : Nat} (refl : Bool) (poly c : BitVec w) (b : Byte) :
    crcStep refl (buildTable poly refl) c b = bitStep poly refl c b := by
  cases refl with
  | false => exact stepMsb_buildTable poly c b
  | true => exact stepLsb_buildTable poly c b

/-- Settles O27: the step over a built table is `BitStep` at every width and in both directions. -/
theorem tableStepIsTheBitwiseStep : Obligations.TableStepIsTheBitwiseStep :=
  ⟨crcStep_buildTable false, crcStep_buildTable true, crcStep_buildTable true⟩

/-! ## Runs without a table -/

theorem crcRun_buildTable {w : Nat} (refl : Bool) (poly c : BitVec w) (bs : List Byte) :
    crcRun refl (buildTable poly refl) c bs = bs.foldl (bitStep poly refl) c := by
  rw [crcRun, funext₂ (crcStep_buildTable refl poly)]

/-- Settles O28: the three runs are evaluated on the bitwise shift register, which builds no
table. -/
theorem catalogueCheckValues : Obligations.CatalogueCheckValues := by
  unfold Obligations.CatalogueCheckValues T01 T04 T05
  simp only [reflected, crcRun_buildTable]
  decide +kernel

end Sys2Proof.Machine
end

section
/-! SUPPORT. Counters and sequence checking (42_counter_sequence.md R180 to R187): the increment and
the difference of two counters as numbers, the counter that an emitted frame carries, where a PCNT
above CMAX comes from, and what a CHECK depends on. -/

namespace Sys2Proof.Machine

/-! ## The difference of two counters and its classification -/

/-- Neither operand is negative as a byte and their difference is within a byte's signed range, so
nothing wraps (R183). -/
theorem delta_eq_sub (recv base : Nibble) :
    delta recv base = (recv.toNat : Int) - (base.toNat : Int) := by
  have toInt_byte (c : Nibble) : (c.setWidth 8).toInt = c.toNat := by
    rw [BitVec.toInt_setWidth, Int.bmod_eq_of_le] <;> omega
  rw [delta, BitVec.toInt_sub, toInt_byte, toInt_byte, Int.bmod_eq_of_le] <;> omega

/-- A right CRC leaves the outcome to the classification of the difference (R184, R186). -/
theorem classify_delta (recv base : Nibble) (m : Byte) :
    CheckOutcome True recv base m (classify (delta recv base) m) := by
  rw [delta_eq_sub]
  exact {
    wrongCrc := fun h => absurd trivial h
    repeated := fun _ h => if_pos (by simp [h])
    backward := fun _ h => by rw [classify, if_neg (by omega), if_pos (by omega)]
    jump := fun _ h => by rw [classify, if_neg (by omega), if_pos (by omega)]
    ok := fun _ h h' => by rw [classify, if_neg (by omega), if_neg (by omega)] }

/-- Settles O37: the difference does not wrap, and each case of R184 is one branch of Classify. -/
theorem deltaIsThePlainDifference : Obligations.DeltaIsThePlainDifference :=
  ⟨delta_eq_sub, classify_delta⟩

/-! ## What a CHECK depends on -/

theorem check_of_rejected {p : Profile} {s : State} {st : Status}
    (h : s.admission p 0 = .error st) : check p s = .next (s.respond st 0) := by
  simp [check, h, reject]

theorem check_of_short {p : Profile} {s : State} {sl : Slot} (h : s.admission p 0 = .ok sl)
    (hn : s.input.length < headerLen p + 1) :
    check p s = .next (s.respond .kNoNewData 0) := by
  simp [check, h, hn]

theorem check_of_long {p : Profile} {s : State} {sl : Slot} (h : s.admission p 0 = .ok sl)
    (hn : ¬ s.input.length < headerLen p + 1) :
    check p s = .next (((s.ensureTable p).setSlot s.port.inst
      { sl with ccnt := recvCounter p s.input }).respond
        ((s.ensureTable p).verdict p sl s.input) 0) := by
  simp [check, h, hn]

/-- Of the addressed slot, admission reads TYPE only (R301). -/
theorem State.admission_agree {s t : State} {sl tl : Slot} (p : Profile) (e : Nat)
    (hcfg : s.cfg = t.cfg) (hin : s.input = t.input) (hs : s.addressed = some sl)
    (ht : t.addressed = some tl) (hty : sl.type = tl.type) :
    (∃ st, s.admission p e = .error st ∧ t.admission p e = .error st) ∨
    (s.admission p e = .ok sl ∧ t.admission p e = .ok tl) := by
  rw [State.addressed] at hs ht
  simp only [State.admission, hs, ht, hty, hcfg, hin]
  cases tl.type with
  | unconstructed => exact .inl ⟨_, rfl, rfl⟩
  | active q =>
    by_cases hq : q = p
    · subst hq
      split_ifs <;> simp
    · simp [hq]

/-- Under R32 the CRC comparison does not depend on the state but for its parameters. -/
theorem State.crcMatches_congr {s t : State} {p : Profile} (hs : s.tableBuilt p)
    (ht : t.tableBuilt p) (hcfg : s.cfg = t.cfg) (d : Half) (fr : List Byte) :
    s.crcMatches p d fr = t.crcMatches p d fr := by
  cases p <;> simp only [State.tableBuilt] at hs ht <;>
    simp only [State.crcMatches, hs, ht, hcfg]

theorem State.verdict_congr {s t : State} {p : Profile} {sl tl : Slot} (hs : s.tableBuilt p)
    (ht : t.tableBuilt p) (hcfg : s.cfg = t.cfg) (hid : sl.dataId = tl.dataId)
    (hmax : sl.maxDelta = tl.maxDelta) (hcc : sl.ccnt = tl.ccnt) (fr : List Byte) :
    s.verdict p sl fr = t.verdict p tl fr := by
  simp only [State.verdict, hid, hmax, hcc, State.crcMatches_congr hs ht hcfg]

theorem State.getElem?_set_of_addressed {s : State} {sl : Slot} (h : s.addressed = some sl)
    (tl : Slot) : (s.slots.set s.port.inst tl)[s.port.inst]? = some tl := by
  obtain ⟨hlt, -⟩ := List.getElem?_eq_some_iff.1 h
  exact List.getElem?_set_self hlt

/-- Two states that agree as R187 says reject alike, find the input too short alike, or give the
same verdict and store the same received counter. -/
theorem check_agree {p : Profile} {s t : State} {sl tl : Slot} (hs : s.tablesOk) (ht : t.tablesOk)
    (hcfg : s.cfg = t.cfg) (hsl : s.addressed = some sl) (htl : t.addressed = some tl)
    (hty : sl.type = tl.type) (hid : sl.dataId = tl.dataId) (hmax : sl.maxDelta = tl.maxDelta)
    (hcc : sl.ccnt = tl.ccnt) (hin : s.input = t.input) :
    ∃ s' t', check p s = .next s' ∧ check p t = .next t' ∧ s'.resp = t'.resp ∧
      ∃ sl' tl', s'.slots[s.port.inst]? = some sl' ∧ t'.slots[t.port.inst]? = some tl' ∧
        sl'.ccnt = tl'.ccnt := by
  rcases State.admission_agree p 0 hcfg hin hsl htl hty with ⟨st, has, hat⟩ | ⟨has, hat⟩
  · exact ⟨_, _, check_of_rejected has, check_of_rejected hat, rfl, sl, tl, hsl, htl, hcc⟩
  · by_cases hn : s.input.length < headerLen p + 1
    · exact ⟨_, _, check_of_short has hn, check_of_short hat (hin ▸ hn), rfl,
        sl, tl, hsl, htl, hcc⟩
    · have hv : (s.ensureTable p).verdict p sl s.input = (t.ensureTable p).verdict p tl t.input :=
        hin ▸ State.verdict_congr (State.ensureTable_built p hs) (State.ensureTable_built p ht)
          (by simpa using hcfg) hid hmax hcc s.input
      exact ⟨_, _, check_of_long has hn, check_of_long hat (hin ▸ hn), by simp [hv],
        { sl with ccnt := recvCounter p s.input }, { tl with ccnt := recvCounter p t.input },
        by simpa using State.getElem?_set_of_addressed hsl _,
        by simpa using State.getElem?_set_of_addressed htl _, congrArg (recvCounter p) hin⟩

/-- Settles O36, by `check_agree`. -/
theorem checkDependsOnBaselineOnly : Obligations.CheckDependsOnBaselineOnly := by
  intro i s t s' t' sl tl hop hs ht hcfg hsl htl hty hid hmax hcc hin hs' ht'
  obtain ⟨s₁, t₁, hcs, hct, hagree⟩ :=
    check_agree (p := i.profile) hs ht hcfg hsl htl hty hid hmax hcc hin
  have exec_check (u : State) : exec i u = check i.profile u := by rw [exec_eq_family, hop]; rfl
  obtain rfl : s₁ = s' := by simpa [exec_check, hcs] using hs'
  obtain rfl : t₁ = t' := by simpa [exec_check, hct] using ht'
  exact hagree

/-! ## The counter that is emitted -/

/-- From within the range 0 to the maximum, the increment counts modulo the maximum and 1 (R180). -/
theorem toNat_counterInc {c max : Nibble} (h : c.toNat ≤ max.toNat) :
    (counterInc c max).toNat = (c.toNat + 1) % (max.toNat + 1) := by
  unfold counterInc
  split_ifs with hc
  · simp [hc]
  · have hlt : c.toNat < max.toNat := by bv_omega
    rw [Nat.mod_eq_of_lt (by omega)]
    bv_omega

/-- The header encoders put the counter where R104 finds it. -/
theorem frameCounter_frame (s : State) (p : Profile) (d : Half) (cnt : Nibble) (pl : List Byte) :
    frameCounter p (s.frame p d cnt pl) = cnt := by
  have hbyte : (counterByte cnt).setWidth 4 = cnt := BitVec.setWidth_setWidth_of_le _ (by decide)
  cases p with
  | p01 =>
    change (controlByte01 d cnt).setWidth 4 = cnt
    rw [controlByte01_eq]
    exact BitVec.setWidth_append_eq_right
  | p04 => exact hbyte
  | p05 => exact hbyte

theorem tryProtect_of_admitsOutput {p : Profile} {s : State} {sl : Slot}
    (ha : s.admitsOutput p sl) (hin : s.input ≠ []) :
    tryProtect p s = emitFrame p sl (counterInc sl.pcnt (cmax p)) s := by
  simp [tryProtect, State.admit_header_ok.2 ha, hin]

/-- An emitted frame carries the counter that PCNT becomes, and the same input is admitted again. -/
theorem emitFrame_counter {p : Profile} {s : State} {sl : Slot} {bs : List Byte}
    (ha : s.admitsOutput p sl) (hbs : s.port.input = .bytes bs) (c : Nibble) :
    ∃ t, emitFrame p sl c s = .next t ∧ t.port = s.port ∧
      t.admitsOutput p { sl with pcnt := c } ∧
      frameCounter p (t.buffers.read s.port.out) = c := by
  obtain ⟨⟨haddr, htype, hlen⟩, hout⟩ := ha
  refine ⟨_, rfl, by simp, ⟨⟨?_, htype, ?_⟩, ?_⟩, ?_⟩
  · simpa [State.addressed] using State.getElem?_set_of_addressed haddr _
  · simpa [State.input, hbs] using hlen
  · simpa [State.input, hbs] using hout
  · simp [Buffers.read_write_of_ne_nil _ _ (State.frame_ne_nil _ _ _ _ _), frameCounter_frame]

/-- n TRY_PROTECT commands from a PCNT of at most CMAX; without any, the last frame emitted is
whatever OUT held. -/
theorem repeated_tryProtect {i : Instr} {bs : List Byte} (hop : i.op = .tryProtect) (hne : bs ≠ [])
    (n : Nat) {s : State} {sl : Slot} (hbs : s.port.input = .bytes bs)
    (ha : s.admitsOutput i.profile sl) (hc : sl.pcnt.toNat ≤ (cmax i.profile).toNat) :
    ∃ t tl, repeated i n s = some t ∧ t.addressed = some tl ∧
      tl.pcnt.toNat = (sl.pcnt.toNat + n) % ((cmax i.profile).toNat + 1) ∧
      (0 < n ∨ frameCounter i.profile (s.buffers.read s.port.out) = sl.pcnt →
        frameCounter i.profile (t.buffers.read s.port.out) = tl.pcnt) := by
  induction n generalizing s sl with
  | zero => exact ⟨s, sl, rfl, ha.1.1, (Nat.mod_eq_of_lt (by omega)).symm, by simp⟩
  | succ n ih =>
    have hinc := toNat_counterInc hc
    obtain ⟨u, hu, hport, hau, hframe⟩ :=
      emitFrame_counter ha hbs (counterInc sl.pcnt (cmax i.profile))
    have hexec : exec i s = .next u := by
      rw [exec_eq_family, hop, ← hu]
      exact tryProtect_of_admitsOutput ha (by simpa [State.input, hbs] using hne)
    have hle : (counterInc sl.pcnt (cmax i.profile)).toNat ≤ (cmax i.profile).toNat := by
      rw [hinc]
      exact Nat.le_of_lt_succ (Nat.mod_lt _ (Nat.succ_pos _))
    obtain ⟨t, tl, hrun, htl, hcount, hlast⟩ := ih (hport ▸ hbs) hau hle
    rw [hport] at hlast
    refine ⟨t, tl, by simpa [repeated, hexec] using hrun, htl, ?_, fun _ => hlast (.inr hframe)⟩
    rw [hcount, hinc, Nat.mod_add_mod]
    congr 1
    omega

/-- Settles O38: the run of `repeated_tryProtect` from PCNT 0. -/
theorem protectCountersWrapAtTheMaximum : Obligations.ProtectCountersWrapAtTheMaximum := by
  intro i s sl bs n hop hbs hne ha hzero
  obtain ⟨t, tl, hrun, htl, hcount, hlast⟩ :=
    repeated_tryProtect hop hne n hbs ha (by simp [hzero])
  exact ⟨t, tl, hrun, htl, by simpa [hzero] using hcount, fun hn => hlast (.inl hn)⟩

/-! ## Counters above the maximum -/

theorem eq_fifteen_of_cmax_lt {p : Profile} {c : Nibble} (h : (cmax p).toNat < c.toNat) :
    p ≠ .p05 ∧ c = 15 := by
  cases p with
  | p01 => exact ⟨nofun, by simp only [cmax] at h; bv_omega⟩
  | p04 => exact ⟨nofun, by simp only [cmax] at h; bv_omega⟩
  | p05 => simp only [cmax] at h; bv_omega

/-- With a maximum of 14, the increment skips 15: it gives 0 from 14, and from 15 (R182). -/
theorem counterInc_cmax_ne_fifteen {p : Profile} (hp : p ≠ .p05) (c : Nibble) :
    counterInc c (cmax p) ≠ 15 := by
  have h : ∀ c : Nibble, counterInc c 14 ≠ 15 := by decide
  cases p with
  | p01 => exact h c
  | p04 => exact h c
  | p05 => exact absurd rfl hp

theorem slots_of_reject {s t : State} {st : Status} (h : reject st s = .next t) :
    t.slots = s.slots := by
  cases h
  rfl

/-- A TRY command changes the slot bank only when a slot of its profile was admitted. -/
theorem exec_try_slots_or_admits {i : Instr} {s t : State} (h : exec i s = .next t)
    (hop : i.op ∈ [.tryProtect, .tryForward]) :
    t.slots = s.slots ∨ ∃ sl, s.admitsOutput i.profile sl := by
  rw [exec_eq_family] at h
  obtain ho | ho : i.op = .tryProtect ∨ i.op = .tryForward := by simpa using hop
  · rw [ho] at h
    rcases tryProtect_cases i.profile s with ⟨st, -, hr⟩ | ⟨sl, ha, -⟩ | ⟨sl, ha, -⟩
    · exact .inl (slots_of_reject (hr.symm.trans h))
    · exact .inr ⟨sl, ha⟩
    · exact .inr ⟨sl, ha⟩
  · rw [ho] at h
    rcases tryForward_cases i.profile s with ⟨st, -, hr⟩ | ⟨sl, ha, -⟩ | ⟨sl, ha, -⟩
    · exact .inl (slots_of_reject (hr.symm.trans h))
    · exact .inr ⟨sl, ha⟩
    · exact .inr ⟨sl, ha⟩

/-- A TRY command leaves the addressed slot alone unless it is of the command's profile. -/
theorem exec_try_slot_eq_or_type {i : Instr} {s t : State} {sl tl : Slot} (h : exec i s = .next t)
    (hop : i.op ∈ [.tryProtect, .tryForward]) (hs : s.slots[s.port.inst]? = some sl)
    (ht : t.slots[s.port.inst]? = some tl) : tl = sl ∨ sl.type = .active i.profile := by
  rcases exec_try_slots_or_admits h hop with hslots | ⟨al, ⟨haddr, htype, -⟩, -⟩
  · exact .inl (Option.some.inj (ht.symm.trans (hslots ▸ hs)))
  · obtain rfl : al = sl := Option.some.inj (haddr.symm.trans hs)
    exact .inr htype

/-- Settles O39, by the writes of `exec_slot`: CONSTRUCT writes 0, TRY_PROTECT an increment, which
is never above CMAX, and CHECK no PCNT, so TRY_FORWARD's copy is left. -/
theorem countersAboveMaximumComeFromForwarding :
    Obligations.CountersAboveMaximumComeFromForwarding := by
  refine ⟨rfl, fun i s t k sl tl p h hk htl htype habove => ?_⟩
  obtain ⟨hp, hc⟩ := eq_fifteen_of_cmax_lt habove
  refine ⟨hp, hc, ?_⟩
  obtain ⟨tl', st, res, htl', -, hcase⟩ := exec_slot h hk
  obtain rfl : tl' = tl := Option.some.inj (htl'.symm.trans htl)
  rcases hcase with ⟨rfl, -⟩ | ⟨rfl, hw⟩
  · exact .inl ⟨htype, rfl⟩
  · generalize ho : i.op = o at hw
    cases hw with
    | construct => exact absurd (show (0 : Nibble) = 15 from hc) (by decide)
    | tryProtect _ =>
      rcases exec_try_slot_eq_or_type h (by simp [ho]) hk htl with heq | hown
      · exact .inl ⟨htype, congrArg Slot.pcnt heq⟩
      · obtain rfl : i.profile = p := SlotType.active.inj (hown.symm.trans htype)
        exact absurd hc (counterInc_cmax_ne_fifteen hp _)
    | tryForward _ =>
      rcases exec_try_slot_eq_or_type h (by simp [ho]) hk htl with heq | hown
      · exact .inl ⟨htype, congrArg Slot.pcnt heq⟩
      · exact .inr ⟨rfl, SlotType.active.inj (hown.symm.trans htype), rfl, hc⟩
    | check _ => exact .inl ⟨htype, rfl⟩

end Sys2Proof.Machine
end

section
/-! SUPPORT. Forwarding after a CHECK (43_profile01.md R207, R208 and their like): the slot through a
CHECK, a TRY_FORWARD and a TRY_PROTECT, and the frames that the two TRY commands emit. -/

namespace Sys2Proof.Machine

/-- Slot `k` of the block is the ACTIVE slot `sl` of profile `p`, the parameters are `cfg`, and the
tables meet R32: what a later command on the slot needs of the state. -/
structure State.Serves (s : State) (cfg : Config) (p : Profile) (k : Nat) (sl : Slot) : Prop where
  cfg : s.cfg = cfg
  tables : s.tablesOk
  slot : s.slots[k]? = some sl
  type : sl.type = .active p

/-- What a command leaves behind when it has written the slot. -/
theorem Effect.serves {p q : Profile} {s t : State} {sl : Slot} {k : Nat} (h : Effect p s t)
    (hs : s.tablesOk) (hslot : t.slots[k]? = some sl) (htype : sl.type = .active q) :
    t.Serves s.cfg q k sl :=
  ⟨h.keepsPort.cfg, h.tablesOk hs, hslot, htype⟩

/-- A command that gives IN as bytes is admitted on the slot if its output fits (R301). -/
theorem State.Serves.admitsOutput {s : State} {cfg : Config} {p : Profile} {sl : Slot}
    {c : Command} {bs : List Byte} (h : s.Serves cfg p c.inst sl) (hin : c.input = .bytes bs)
    (hlen : tooLong cfg.maxFrameLen (headerLen p + bs.length) = false) :
    { s with port := c }.admitsOutput p sl := by
  obtain ⟨rfl, -, hslot, htype⟩ := h
  have hlen' : tooLong s.cfg.maxFrameLen
      (headerLen p + ({ s with port := c } : State).input.length) = false := by
    simpa only [State.input, hin] using hlen
  exact ⟨⟨hslot, htype, tooLong_add hlen'⟩, hlen'⟩

/-- A CHECK that reads a counter makes it the slot's CCNT and changes nothing else of the slot. -/
theorem exec_check_serves {i : Instr} {s t : State} {sl : Slot} {st : Status} {res : Word}
    (hop : i.op = .check) (hs : s.tablesOk) (ha : s.admits i.profile sl) (h : exec i s = .next t)
    (hr : t.resp = some ⟨st, res⟩) (hst : st ≠ .kNoNewData) :
    t.Serves s.cfg i.profile s.port.inst { sl with ccnt := frameCounter i.profile s.input } := by
  have hadm : s.admission i.profile 0 = .ok sl := State.admit_zero_ok.2 ha
  obtain ⟨haddr, htype, -⟩ := ha
  rw [exec_eq_family, hop, family] at h
  by_cases hn : s.input.length < headerLen i.profile + 1
  · obtain rfl : s.respond .kNoNewData 0 = t := by simpa [check_of_short hadm hn] using h
    obtain ⟨rfl, -⟩ : .kNoNewData = st ∧ 0 = res := by simpa using hr
    exact absurd rfl hst
  · rw [check_of_long hadm hn] at h
    obtain rfl := Host.Outcome.next.inj h
    refine (Effect.checked sl _ haddr).serves hs ?_ htype
    simpa [recvCounter_eq_frameCounter] using State.getElem?_set_of_addressed haddr _

/-- A frame emitted on an admitted slot carries the counter that PCNT becomes. -/
theorem emitFrame_serves {p : Profile} {s : State} {sl : Slot} (hs : s.tablesOk)
    (ha : s.admits p sl) (cnt : Nibble) :
    ∃ t, emitFrame p sl cnt s = .next t ∧
      t.Serves s.cfg p s.port.inst { sl with pcnt := cnt } ∧
      t.buffers.read s.port.out = frameOf s.cfg p sl.dataId cnt s.input := by
  obtain ⟨haddr, htype, -⟩ := ha
  refine ⟨_, rfl, (Effect.frame sl cnt _ haddr).serves hs ?_ htype, ?_⟩
  · simpa using State.getElem?_set_of_addressed haddr _
  · simpa [Buffers.read_write_of_ne_nil _ _ (State.frame_ne_nil _ _ _ _ _)] using
      State.frame_of_built (State.ensureTable_built p hs) sl.dataId cnt s.input

theorem tryForward_of_admitsOutput {p : Profile} {s : State} {sl : Slot}
    (ha : s.admitsOutput p sl) (hin : s.input ≠ []) :
    tryForward p s = emitFrame p sl sl.ccnt s := by
  simp [tryForward, State.admit_header_ok.2 ha, hin]

/-- The counter of the frame that a TRY command of operation `o` emits (R206, R207). -/
def emittedCounter (o : Operation) (p : Profile) (sl : Slot) : Nibble :=
  if o = .tryProtect then counterInc sl.pcnt (cmax p) else sl.ccnt

theorem exec_try_eq_emitFrame {i : Instr} {s : State} {sl : Slot}
    (hop : i.op = .tryProtect ∨ i.op = .tryForward) (ha : s.admitsOutput i.profile sl)
    (hin : s.input ≠ []) :
    exec i s = emitFrame i.profile sl (emittedCounter i.op i.profile sl) s := by
  rw [exec_eq_family]
  rcases hop with hop | hop
  · rw [hop]
    exact tryProtect_of_admitsOutput ha hin
  · rw [hop]
    exact tryForward_of_admitsOutput ha hin

/-- A TRY command with non-empty bytes on a slot that serves it emits the next frame, and the slot
serves the following command. -/
theorem State.Serves.exec_try {i : Instr} {s : State} {cfg : Config} {sl : Slot} {c : Command}
    {bs : List Byte} (h : s.Serves cfg i.profile c.inst sl)
    (hop : i.op = .tryProtect ∨ i.op = .tryForward) (hin : c.input = .bytes bs) (hne : bs ≠ [])
    (hlen : tooLong cfg.maxFrameLen (headerLen i.profile + bs.length) = false) :
    ∃ t, exec i { s with port := c } = .next t ∧
      t.Serves cfg i.profile c.inst
        { sl with pcnt := emittedCounter i.op i.profile sl } ∧
      t.buffers.read c.out =
        frameOf cfg i.profile sl.dataId (emittedCounter i.op i.profile sl) bs := by
  have ha := h.admitsOutput hin hlen
  obtain ⟨rfl, htables, -, -⟩ := h
  have hbs : ({ s with port := c } : State).input = bs := by simp only [State.input, hin]
  have hemit := emitFrame_serves (s := { s with port := c }) htables ha.1
    (emittedCounter i.op i.profile sl)
  rw [hbs] at hemit
  rwa [exec_try_eq_emitFrame hop ha (hbs ▸ hne)]

/-- Settles O44: CHECK makes K the slot's CCNT, TRY_FORWARD emits CCNT and makes it PCNT, and
TRY_PROTECT emits the increment of PCNT. -/
theorem forwardingResynchronises : Obligations.ForwardingResynchronises := by
  intro k f e s t sl st c2 c3 b2 b3 hk hf he hfp hep hs ha ht hr hst hi2 hin2 hb2 hlen2
    hi3 hin3 hb3 hlen3
  have hchecked := exec_check_serves hk hs ha ht hr hst
  rw [← hi2, ← hfp] at hchecked
  obtain ⟨u, hu, hforwarded, hframe2⟩ :=
    hchecked.exec_try (.inr hf) hin2 hb2 (hfp ▸ hlen2)
  rw [hi2, ← hi3, hfp, ← hep] at hforwarded
  obtain ⟨v, hv, -, hframe3⟩ := hforwarded.exec_try (.inl he) hin3 hb3 (hep ▸ hlen3)
  simp only [emittedCounter, hf, he, hfp, hep, counterInc, reduceCtorEq, if_true, if_false]
    at hframe2 hframe3
  exact ⟨u, v, hu, hv, hframe2, hframe3⟩

end Sys2Proof.Machine
end

section
/-! SUPPORT. Rejections and empty input (60_exceptions.md R300, R303): whatever runs in the port is
rejected and writes the response only, or answers with a STATUS that is no rejection. -/

namespace Sys2Proof.Machine

/-- What a command run on `s` answers: a rejection, which leaves all but the response (R300), or a
STATUS that is no rejection. -/
inductive RejectedOrServed (s : State) (o : StepOutcome) : Prop where
  | rejected {st : Status} (h : o = reject st s)
  | served {t : State} {st : Status} {res : Word} (h : o = .next (t.respond st res))
    (hserved : st.isRejection = false)

/-- The rejections are the STATUS values from 0x80 on (R97). -/
theorem Status.isRejection_of_code_ge {st : Status} :
    0x80 ≤ st.code.toNat → st.isRejection = true := by
  cases st <;> decide

theorem Status.code_le (st : Status) : st.code.toNat ≤ 0x86 := by
  cases st <;> decide

theorem classify_not_rejection (dl : Int) (m : Byte) : (classify dl m).isRejection = false := by
  unfold classify
  split
  · rfl
  · split <;> rfl

/-- The outcome of a CHECK is never a rejection. -/
theorem State.verdict_not_rejection (s : State) (p : Profile) (sl : Slot) (fr : List Byte) :
    (s.verdict p sl fr).isRejection = false := by
  unfold State.verdict
  split
  · exact classify_not_rejection _ _
  · rfl

/-- Of the answers of a command, those of failed admission are rejections, and no others are. -/
theorem exec_rejectedOrServed (i : Instr) (s : State) : RejectedOrServed s (exec i s) := by
  rw [exec_eq_family]
  generalize i.profile = p
  generalize i.arg8 = a
  cases i.op with
  | construct =>
    rcases construct_cases p s with ⟨-, h⟩ | ⟨-, h⟩
    · exact .rejected h
    · exact .served h rfl
  | initTable => exact .served rfl rfl
  | tableRead => exact .served rfl rfl
  | crcStep => exact .served rfl rfl
  | computeCrc =>
    rcases computeCrc_cases p a s with ⟨st, -, h⟩ | ⟨sl, -, h⟩
    · exact .rejected h
    · exact .served h rfl
  | tryProtect =>
    rcases tryProtect_cases p s with ⟨st, -, h⟩ | ⟨sl, -, -, h⟩ | ⟨sl, -, -, h⟩
    · exact .rejected h
    · exact .served h rfl
    · exact .served h rfl
  | tryForward =>
    rcases tryForward_cases p s with ⟨st, -, h⟩ | ⟨sl, -, -, h⟩ | ⟨sl, -, -, h⟩
    · exact .rejected h
    · exact .served h rfl
    · exact .served h rfl
  | check =>
    rcases check_cases p s with ⟨st, -, h⟩ | ⟨sl, -, -, h⟩ | ⟨sl, -, -, h⟩
    · exact .rejected h
    · exact .served h rfl
    · exact .served h (State.verdict_not_rejection _ _ _ _)

theorem runPort_rejectedOrServed (s : State) : RejectedOrServed s (runPort s) := by
  rcases runPort_cases s with ⟨r, -, h⟩ | ⟨i, t, -, h, hexec, -⟩
  · exact .rejected h
  · rw [h, ← hexec]
    exact exec_rejectedOrServed i s

/-- Settles O14, by `runPort_rejectedOrServed`: a STATUS from 0x80 on is a rejection, so it was not
a served command that gave it. -/
theorem rejectedCommandsWriteNothing : Obligations.RejectedCommandsWriteNothing := by
  intro s t r h hr hcode
  refine ⟨r.status.code_le, ?_⟩
  have hrej : r.status.isRejection = true := Status.isRejection_of_code_ge hcode
  have hcase := runPort_rejectedOrServed s
  rw [h] at hcase
  cases hcase with
  | @rejected st ht =>
    obtain rfl : t = s.respond st 0 := Host.Outcome.next.inj ht
    obtain rfl : ⟨st, 0⟩ = r := Option.some.inj hr
    rfl
  | @served u st res ht hserved =>
    obtain rfl : t = u.respond st res := Host.Outcome.next.inj ht
    obtain rfl : ⟨st, res⟩ = r := Option.some.inj hr
    simp [hserved] at hrej

theorem tryProtect_of_empty {p : Profile} {s : State} {sl : Slot} (ha : s.admitsOutput p sl)
    (hin : s.input = []) : tryProtect p s = .next (s.respond .inputFalse 0) := by
  simp [tryProtect, State.admit_header_ok.2 ha, hin]

theorem tryForward_of_empty {p : Profile} {s : State} {sl : Slot} (ha : s.admitsOutput p sl)
    (hin : s.input = []) : tryForward p s = .next (s.respond .inputFalse 0) := by
  simp [tryForward, State.admit_header_ok.2 ha, hin]

/-- Settles O33: both TRY commands test for empty input right after admission. -/
theorem emptyInputIsFalse : Obligations.EmptyInputIsFalse := by
  intro i s sl hop ha hin
  rw [exec_eq_family]
  obtain ho | ho : i.op = .tryProtect ∨ i.op = .tryForward := by simpa using hop
  · rw [ho]
    exact tryProtect_of_empty ha hin
  · rw [ho]
    exact tryForward_of_empty ha hin

end Sys2Proof.Machine
end

section
/-! SUPPORT. The encoder (30_encoding.md R91 to R94, R106): the fields of an encoded command are its
operation's, its profile's and its ARG8, so that decoding gives the command back; and the host's
assembler lines. -/

namespace Sys2Proof

/-- The two halves of an append, each put in its place. -/
theorem setWidth_append_eq_or {m n : Nat} (x : BitVec m) (y : BitVec n) (w : Nat) :
    (x ++ y).setWidth w = x.setWidth w <<< n ||| y.setWidth w := by
  refine BitVec.eq_of_getLsbD_eq fun i hi => ?_
  by_cases h : i < n
  · simp [BitVec.getLsbD_append, hi, h]
  · have hy : y.getLsbD i = false := BitVec.getLsbD_of_ge _ _ (by omega)
    simp [BitVec.getLsbD_append, hi, h, hy]

/-! ## Commands by operation, profile and ARG8 -/

@[simp] theorem Instr.op_of (o : Operation) (p : Profile) (a : Byte) : (Instr.of o p a).op = o := by
  cases o <;> cases p <;> rfl

@[simp] theorem Instr.profile_of (o : Operation) (p : Profile) (a : Byte) :
    (Instr.of o p a).profile = p := by
  cases o <;> cases p <;> rfl

theorem Instr.arg8_of (o : Operation) (p : Profile) (a : Byte) :
    (Instr.of o p a).arg8 = if o.reservesArg then 0#8 else a := by
  cases o <;> cases p <;> rfl

@[simp] theorem Instr.of_op_profile_arg8 (i : Instr) : Instr.of i.op i.profile i.arg8 = i := by
  cases i <;> rfl

theorem Instr.arg8_eq_zero {i : Instr} (h : i.op.reservesArg = true) : i.arg8 = 0#8 := by
  rw [← i.of_op_profile_arg8, Instr.arg8_of, if_pos h]

/-! ## Decoding what is encoded -/

/-- The fields of an encoded command. -/
theorem fields_encode (i : Instr) : opField (encode i) = opCode i.op ∧
    profField (encode i) = profCode i.profile ∧ argField (encode i) = i.arg8 := by
  have h := fields_append (encode i)
  conv_rhs at h => rw [encode]
  obtain ⟨h', ha⟩ := append_eq_append_iff.1 h
  obtain ⟨ho, hp⟩ := append_eq_append_iff.1 h'
  exact ⟨ho, hp, ha⟩

theorem decode_encode (i : Instr) : decode (encode i) = .command i := by
  obtain ⟨ho, hp, ha⟩ := fields_encode i
  have hw : IsWordOf i.op i.profile (encode i) :=
    ⟨ho, hp, fun hr => ha.trans (Instr.arg8_eq_zero hr)⟩
  rw [hw.decode, ha, Instr.of_op_profile_arg8]

/-- A word with the fields of a command is that command's encoding. -/
theorem IsWordOf.encode {o : Operation} {p : Profile} {w : Half} (h : IsWordOf o p w) :
    encode (Instr.of o p (argField w)) = w := by
  have harg : (Instr.of o p (argField w)).arg8 = argField w := by
    rw [Instr.arg8_of]
    split_ifs with hr
    · exact (h.arg hr).symm
    · rfl
  rw [Sys2Proof.encode, Instr.op_of, Instr.profile_of, harg, ← h.op, ← h.prof, fields_append]

/-- Settles O1: the encoder writes exactly the fields that the decoder reads. -/
theorem decodeEncodeAgree : Obligations.DecodeEncodeAgree := by
  refine ⟨decode_encode, fun w i h => ?_⟩
  obtain ⟨o, p, hw⟩ := isWordOf_of_decode h
  obtain rfl : Instr.of o p (argField w) = i := Decoded.command.inj (hw.decode.symm.trans h)
  exact hw.encode

/-- Settles O3: each word's fields are evaluated by the decoder. -/
theorem wordsOfTheSpecDecode : Obligations.WordsOfTheSpecDecode := by
  unfold Obligations.WordsOfTheSpecDecode
  decide +kernel

end Sys2Proof

namespace Sys2Proof.Machine

/-! ## Assembler lines -/

/-- The command of a line (R106). -/
def Line.instr : Line → Instr
  | .construct p _ _ _ => .of .construct p 0
  | .initTable p => .of .initTable p 0
  | .tableRead p x => .of .tableRead p x
  | .crcStep p _ x => .of .crcStep p x
  | .computeCrc p _ x _ => .of .computeCrc p x
  | .tryProtect p _ _ _ => .of .tryProtect p 0
  | .tryForward p _ _ _ => .of .tryForward p 0
  | .check p _ _ => .of .check p 0

theorem decode_assemble_word (l : Line) : decode l.assemble.word = .command l.instr := by
  cases l <;> exact decode_encode _

/-- The two operands of CONSTRUCT stand side by side in OPA. -/
theorem constructOpa_eq_append (id : Half) (m : Byte) : constructOpa id m = 0x00#8 ++ m ++ id := by
  have h := setWidth_append_eq_or (0x00#8 ++ m) id 32
  rw [BitVec.setWidth_eq, setWidth_append_eq_or] at h
  simpa [constructOpa] using h.symm

/-- Settles O48: the word of every line is its command's encoding, and the operands are set field by
field. -/
theorem assemblerLinesSetTheirFields : Obligations.AssemblerLinesSetTheirFields :=
  ⟨fun p k id m => ⟨decode_assemble_word (.construct p k id (some m)), rfl,
      constructOpa_eq_append id m, rfl⟩,
    fun p => decode_assemble_word (.initTable p),
    fun p x => decode_assemble_word (.tableRead p x),
    fun p c x => ⟨decode_assemble_word (.crcStep p c x), rfl⟩,
    fun p k x inp => ⟨decode_assemble_word (.computeCrc p k x inp), rfl, rfl⟩,
    fun p k inp o => ⟨decode_assemble_word (.tryProtect p k inp o), rfl, rfl,
      decode_assemble_word (.tryForward p k inp o), rfl, rfl,
      decode_assemble_word (.check p k inp), rfl, rfl⟩⟩

end Sys2Proof.Machine
end

section
/-! SUPPORT. What a step can do, said once (20_memory.md R74, 70_reset_and_hazards.md R330), and
what follows for every step: the invariant, when VALID changes (10_state.md R32), and when a slot
goes back to UNCONSTRUCTED (R43). -/

namespace Sys2Proof.Machine

/-- The state in which the command that an event lets through runs: it stands in the port, out of
its agent's queue, and the event is consumed. -/
def State.granted (s : State) (a : Nat) (c : Command) (q : List Command) : State :=
  { s with port := c, agents := s.agents.set a q, events := s.events.tail }

/-- What a step makes of a state: nothing but the event consumed, a power-on reset, or the run of an
agent's oldest command. -/
inductive StepEffect (s : State) : State → Prop where
  | idle : StepEffect s { s with events := s.events.tail }
  | powerOn (hev : s.events.head? = some .powerOn) :
    StepEffect s { s with events := s.events.tail }.powerOnReset
  | ran {a : Nat} {c : Command} {q : List Command} {t : State}
    (hev : s.events.head? = some (.grant a)) (hq : s.agents[a]? = some (c :: q))
    (h : runPort (s.granted a c q) = .next t) : StepEffect s t

/-- Whatever stands in the port, its run has the effect of a command of some profile. -/
theorem runPort_effect (s : State) : ∃ t p, runPort s = .next t ∧ Effect p s t := by
  rcases runPort_cases s with ⟨r, -, h⟩ | ⟨i, t, -, h, -, he⟩
  · exact ⟨_, .p01, h, .respond _⟩
  · exact ⟨t, _, h, he⟩

theorem effect_of_runPort {s t : State} (h : runPort s = .next t) : ∃ p, Effect p s t := by
  obtain ⟨t', p, ht', he⟩ := runPort_effect s
  obtain rfl : t' = t := Host.Outcome.next.inj (ht'.symm.trans h)
  exact ⟨p, he⟩

/-- The inversion lemma of the step. -/
theorem step_effect (s : State) : ∃ t, step s = .next t ∧ StepEffect s t := by
  rcases s.fetch_cases with ⟨he, hf⟩ | ⟨es, he, hf⟩ | ⟨a, es, he, -, hf⟩ | ⟨a, es, c, q, he, hq, hf⟩
  · refine ⟨{ s with events := s.events.tail }, ?_, .idle⟩
    rw [step_of_idle hf, he]
    cases s
    cases he
    rfl
  · obtain rfl : s.events.tail = es := by rw [he]; rfl
    exact ⟨_, step_of_idle hf, .powerOn (by rw [he]; rfl)⟩
  · obtain rfl : s.events.tail = es := by rw [he]; rfl
    exact ⟨_, step_of_idle hf, .idle⟩
  · obtain rfl : s.events.tail = es := by rw [he]; rfl
    obtain ⟨t, p, ht, -⟩ := runPort_effect (s.granted a c q)
    exact ⟨t, (step_of_command hf).trans ht, .ran (by rw [he]; rfl) hq ht⟩

theorem stepEffect_of_step {s t : State} (h : step s = .next t) : StepEffect s t := by
  obtain ⟨t', ht', he⟩ := step_effect s
  obtain rfl : t' = t := Host.Outcome.next.inj (ht'.symm.trans h)
  exact he

/-! ## The step as a whole -/

/-- Settles O4: the event's branch of `State.fetch` and the command branch of `runPort`. -/
theorem stepRunsTheDecodedCommand : Obligations.StepRunsTheDecodedCommand := by
  intro s a es c q i hev hq hdec
  simp [step, State.fetch, hev, hq, runPort, hdec]

theorem Effect.resp_isSome {p : Profile} {s t : State} (h : Effect p s t) :
    ∃ r, t.resp = some r := by
  cases h <;> exact ⟨_, rfl⟩

theorem StepEffect.cfg_length {s t : State} (h : StepEffect s t) :
    t.cfg = s.cfg ∧ t.slots.length = s.slots.length := by
  cases h with
  | idle => exact ⟨rfl, rfl⟩
  | powerOn _ => exact ⟨rfl, List.length_replicate⟩
  | ran _ _ h =>
    obtain ⟨p, he⟩ := effect_of_runPort h
    exact ⟨he.keepsPort.cfg, he.length⟩

/-- Settles O5: `step_effect` and `exec_effect` give a next state in every case. -/
theorem everyStepCompletes : Obligations.EveryStepCompletes := by
  refine ⟨fun s => ?_, fun i s => ?_⟩
  · obtain ⟨t, h, he⟩ := step_effect s
    exact ⟨t, h, he.cfg_length⟩
  · obtain ⟨t, h, he⟩ := exec_effect i s
    obtain ⟨r, hr⟩ := he.resp_isSome
    exact ⟨t, r, h, hr⟩

/-! ## Power-on reset -/

theorem type_of_mem_replicate_powerOn {n : Nat} {sl : Slot}
    (h : sl ∈ List.replicate n Slot.powerOn) : sl.type = .unconstructed := by
  rw [List.eq_of_mem_replicate h]
  rfl

/-- Settles O7: `Slot.powerOn` is NONE and `TableUnit.powerOn` not VALID. -/
theorem powerOnLeavesEveryThingUnbuilt : Obligations.PowerOnLeavesEveryThingUnbuilt := by
  refine ⟨⟨rfl, rfl, rfl, rfl, fun sl => type_of_mem_replicate_powerOn⟩, fun s es hev => ?_⟩
  have hf : s.fetch = .idle { s with events := es }.powerOnReset := by simp [State.fetch, hev]
  exact ⟨_, step_of_idle hf, rfl, rfl, rfl, List.length_replicate,
    fun sl => type_of_mem_replicate_powerOn, rfl, rfl, rfl, rfl⟩

/-! ## The invariant -/

/-- R32 asks nothing of tables that are not built. -/
theorem State.tablesOk_of_unbuilt {s : State} (h1 : s.t01.valid = false) (h4 : s.t04.valid = false)
    (h5 : s.t05.valid = false) : s.tablesOk := by
  simp [State.tablesOk, h1, h4, h5]

/-- Settles O8: no table is built after reset, and the recommended parameters are within R6. -/
theorem resetMeetsTheInvariant : Obligations.ResetMeetsTheInvariant where
  tables := State.tablesOk_of_unbuilt rfl rfl rfl
  cfg := rfl
  slots := rfl
  buffers := rfl

theorem Effect.inv {p : Profile} {s t : State} (h : Effect p s t) (hs : s.Inv) : t.Inv where
  tables := h.tablesOk hs.tables
  cfg := h.keepsPort.cfg ▸ hs.cfg
  slots := h.length ▸ hs.slots
  buffers := h.buffers_wf hs.buffers

theorem StepEffect.inv {s t : State} (h : StepEffect s t) (hs : s.Inv) : t.Inv := by
  obtain ⟨hcfg, hlen⟩ := h.cfg_length
  cases h with
  | idle => exact { hs with }
  | powerOn _ =>
    exact {
      tables := State.tablesOk_of_unbuilt rfl rfl rfl
      cfg := hs.cfg
      slots := hlen ▸ hs.slots
      buffers := hs.buffers }
  | ran _ _ h =>
    obtain ⟨p, he⟩ := effect_of_runPort h
    exact he.inv { hs with }

/-- Settles O9: each effect of a step keeps the invariant. -/
theorem everyStepKeepsTheInvariant : Obligations.EveryStepKeepsTheInvariant :=
  fun _ _ hs h => (stepEffect_of_step h).inv hs

/-! ## VALID -/

/-- A command leaves the tables as they are or as EnsureTable leaves them. -/
theorem Effect.tables {p : Profile} {s t : State} (h : Effect p s t) :
    keepsTables s t ∨ keepsTables (s.ensureTable p) t := by
  cases h with
  | respond _ => exact .inl ⟨rfl, rfl, rfl⟩
  | construct _ _ => exact .inl ⟨rfl, rfl, rfl⟩
  | result _ => exact .inr ⟨rfl, rfl, rfl⟩
  | frame _ _ _ _ => exact .inr ⟨rfl, rfl, rfl⟩
  | checked _ _ _ => exact .inr ⟨rfl, rfl, rfl⟩

/-- From `t` to `u`, VALID has risen only with the built entries in place, and has not fallen. -/
def TableUnit.Rises {w : Nat} (poly : BitVec w) (refl : Bool) (t u : TableUnit w) : Prop :=
  (t.valid = false → u.valid = true → u = { tbl := buildTable poly refl, valid := true }) ∧
  (t.valid = true → u.valid = true)

theorem TableUnit.rises_self {w : Nat} (poly : BitVec w) (refl : Bool) (t : TableUnit w) :
    t.Rises poly refl t :=
  ⟨fun h h' => absurd (h.symm.trans h') Bool.false_ne_true, id⟩

theorem TableUnit.rises_ensure {w : Nat} (poly : BitVec w) (refl : Bool) (t : TableUnit w) :
    t.Rises poly refl (t.ensure poly refl) :=
  ⟨fun h _ => TableUnit.ensure_eq fun h' => absurd (h.symm.trans h') Bool.false_ne_true,
    fun _ => TableUnit.ensure_valid _ _ _⟩

/-- Every table unit has risen, at most, from s to t. -/
structure TablesRise (s t : State) : Prop where
  t01 : s.t01.Rises s.cfg.poly8 (reflected .p01) t.t01
  t04 : s.t04.Rises s.cfg.poly32 (reflected .p04) t.t04
  t05 : s.t05.Rises s.cfg.poly16 (reflected .p05) t.t05

theorem tablesRise_of_keepsTables {s t : State} (h : keepsTables s t) : TablesRise s t := by
  obtain ⟨h1, h4, h5⟩ := h
  constructor
  · exact h1 ▸ TableUnit.rises_self _ _ _
  · exact h4 ▸ TableUnit.rises_self _ _ _
  · exact h5 ▸ TableUnit.rises_self _ _ _

theorem tablesRise_ensureTable (p : Profile) (s : State) : TablesRise s (s.ensureTable p) := by
  have h1 := TableUnit.rises_self s.cfg.poly8 (reflected .p01) s.t01
  have h4 := TableUnit.rises_self s.cfg.poly32 (reflected .p04) s.t04
  have h5 := TableUnit.rises_self s.cfg.poly16 (reflected .p05) s.t05
  cases p with
  | p01 => exact ⟨TableUnit.rises_ensure _ _ _, h4, h5⟩
  | p04 => exact ⟨h1, TableUnit.rises_ensure _ _ _, h5⟩
  | p05 => exact ⟨h1, h4, TableUnit.rises_ensure _ _ _⟩

theorem Effect.tablesRise {p : Profile} {s t : State} (h : Effect p s t) : TablesRise s t := by
  rcases h.tables with h | ⟨h1, h4, h5⟩
  · exact tablesRise_of_keepsTables h
  · obtain ⟨r1, r4, r5⟩ := tablesRise_ensureTable p s
    exact ⟨h1 ▸ r1, h4 ▸ r4, h5 ▸ r5⟩

theorem TablesRise.valid_built {s t : State} (h : TablesRise s t) (hcfg : t.cfg = s.cfg)
    (p : Profile) : (s.tableValid p = false → t.tableValid p = true → t.tableBuilt p) ∧
      (s.tableValid p = true → t.tableValid p = true) := by
  cases p
  · rw [State.tableBuilt, hcfg]
    exact h.t01
  · rw [State.tableBuilt, hcfg]
    exact h.t04
  · rw [State.tableBuilt, hcfg]
    exact h.t05

/-- A step without a power-on reset lets VALID rise only. -/
theorem StepEffect.tablesRise_or_powerOn {s t : State} (h : StepEffect s t) :
    TablesRise s t ∨ (s.events.head? = some .powerOn ∧ ∀ p, t.tableValid p = false) := by
  cases h with
  | idle => exact .inl (tablesRise_of_keepsTables ⟨rfl, rfl, rfl⟩)
  | powerOn hev => exact .inr ⟨hev, fun p => by cases p <;> rfl⟩
  | ran _ _ h =>
    obtain ⟨p, he⟩ := effect_of_runPort h
    obtain ⟨h1, h4, h5⟩ := he.tablesRise
    exact .inl ⟨h1, h4, h5⟩

/-- Settles O10: EnsureTable is the only write to a table but power-on reset. -/
theorem validRisesOnceAndOnlyBuilt : Obligations.ValidRisesOnceAndOnlyBuilt := by
  intro s t p h
  have he := stepEffect_of_step h
  rcases he.tablesRise_or_powerOn with hrise | ⟨hev, hunbuilt⟩
  · obtain ⟨hup, hdown⟩ := hrise.valid_built he.cfg_length.1 p
    exact ⟨hup, fun hs ht => absurd (ht.symm.trans (hdown hs)) Bool.false_ne_true⟩
  · exact ⟨fun _ ht => absurd ((hunbuilt p).symm.trans ht) Bool.false_ne_true, fun _ _ => hev⟩

/-! ## UNCONSTRUCTED slots -/

/-- No command makes a slot UNCONSTRUCTED. -/
theorem SlotWrite.type_ne {p : Profile} {s : State} {o : Operation} {st : Status} {sl tl : Slot}
    (h : SlotWrite p s sl o st tl) (hsl : sl.type ≠ .unconstructed) : tl.type ≠ .unconstructed := by
  cases h with
  | construct => exact nofun
  | tryProtect _ => exact hsl
  | tryForward _ => exact hsl
  | check _ => exact hsl

theorem exec_keeps_constructed {i : Instr} {s t : State} {k : Nat} {sl tl : Slot}
    (h : exec i s = .next t) (hs : s.slots[k]? = some sl) (ht : t.slots[k]? = some tl)
    (hsl : sl.type ≠ .unconstructed) : tl.type ≠ .unconstructed := by
  obtain ⟨tl', st, res, htl', -, hcase⟩ := exec_slot h hs
  obtain rfl : tl' = tl := Option.some.inj (htl'.symm.trans ht)
  rcases hcase with ⟨rfl, -⟩ | ⟨-, hw⟩
  · exact hsl
  · exact hw.type_ne hsl

/-- Settles O11: nothing but a power-on reset writes NONE to a slot. -/
theorem slotsAreUnmadeOnlyByPowerOn : Obligations.SlotsAreUnmadeOnlyByPowerOn := by
  intro s t k sl tl h hs ht hsl htl
  cases stepEffect_of_step h with
  | idle =>
    obtain rfl : sl = tl := Option.some.inj (hs.symm.trans ht)
    exact absurd htl hsl
  | powerOn hev => exact hev
  | @ran a c q _ hev hq hrun =>
    rcases runPort_cases (s.granted a c q) with ⟨r, -, hr⟩ | ⟨i, u, -, hr, hexec, -⟩
    · obtain rfl := Host.Outcome.next.inj (hr.symm.trans hrun)
      obtain rfl : sl = tl := Option.some.inj (hs.symm.trans ht)
      exact absurd htl hsl
    · obtain rfl := Host.Outcome.next.inj (hr.symm.trans hrun)
      exact absurd htl (exec_keeps_constructed hexec hs ht hsl)

end Sys2Proof.Machine
end

section
/-! SUPPORT. The host's buffers (20_memory.md R63): a canonical store is determined by what its
buffers read, so writes to different buffers commute. -/

namespace Sys2Proof.Machine

/-- A write is read back whole from a canonical store, the empty content too. -/
theorem Buffers.read_write {m : Buffers} (hm : m.wf = true) (b : Nat) (v : List Byte) :
    Buffers.read (m.write b v) b = v := by
  by_cases hv : v = []
  · simp [Buffers.write, hv, Buffers.read_remove b hm]
  · exact Buffers.read_write_of_ne_nil m b hv

/-- Settles O41, by `Buffers.read_write` and the laws for other buffers and the canonical form. -/
theorem bufferWritesAreReadBack : Obligations.BufferWritesAreReadBack :=
  fun m b v hm => ⟨Buffers.read_write hm b v, fun _ => Buffers.read_write_other m v,
    Buffers.wf_write b v hm⟩

/-- Behind the first entry of a canonical store there are only greater numbers. -/
theorem Buffers.read_tail_of_le {a b : Nat} {bs : List Byte} {m : Buffers}
    (hm : Buffers.wf ((a, bs) :: m) = true) (hb : b ≤ a) : Buffers.read m b = [] := by
  obtain ⟨-, -, hlow⟩ := Buffers.wf_cons hm
  exact Buffers.read_of_not_mem m b fun x hx => (hb.trans_lt (hlow x hx)).ne'

/-- A canonical store that is not empty reads its first number as some bytes, which a store that
starts later does not. -/
theorem Buffers.head_le_of_read {a c : Nat} {bs cs : List Byte} {m n : Buffers}
    (hm : Buffers.wf ((a, bs) :: m) = true) (hn : Buffers.wf ((c, cs) :: n) = true)
    (h : Buffers.read ((a, bs) :: m) a = Buffers.read ((c, cs) :: n) a) : c ≤ a := by
  by_contra hlt
  have hread : bs = Buffers.read n a := by
    simpa [Buffers.read, show c ≠ a by omega] using h
  exact (Buffers.wf_cons hm).1 (hread.trans (Buffers.read_tail_of_le hn (by omega)))

/-- Canonical stores that read alike are equal. -/
theorem Buffers.ext_of_read {m n : Buffers} (hm : m.wf = true) (hn : n.wf = true)
    (h : ∀ b, m.read b = n.read b) : m = n := by
  induction m generalizing n with
  | nil =>
    cases n with
    | nil => rfl
    | cons y n => exact absurd (by simpa [Buffers.read] using (h y.1).symm) (Buffers.wf_cons hn).1
  | cons x m ih =>
    obtain ⟨a, bs⟩ := x
    cases n with
    | nil => exact absurd (by simpa [Buffers.read] using h a) (Buffers.wf_cons hm).1
    | cons y n =>
      obtain ⟨c, cs⟩ := y
      obtain rfl : a = c := le_antisymm (Buffers.head_le_of_read hn hm (h c).symm)
        (Buffers.head_le_of_read hm hn (h a))
      obtain rfl : bs = cs := by simpa [Buffers.read] using h a
      obtain ⟨-, htm, -⟩ := Buffers.wf_cons hm
      obtain ⟨-, htn, -⟩ := Buffers.wf_cons hn
      have htail : m = n := ih htm htn fun b => by
        by_cases hb : b = a
        · rw [Buffers.read_tail_of_le hm hb.le, Buffers.read_tail_of_le hn hb.le]
        · simpa [Buffers.read, Ne.symm hb] using h b
      rw [htail]

theorem Buffers.write_comm {m : Buffers} (hm : m.wf = true) {a b : Nat} (hab : a ≠ b)
    (v w : List Byte) :
    Buffers.write (m.write a v) b w = Buffers.write (m.write b w) a v := by
  have hva := Buffers.wf_write a v hm
  have hwb := Buffers.wf_write b w hm
  refine Buffers.ext_of_read (Buffers.wf_write b w hva) (Buffers.wf_write a v hwb) fun c => ?_
  by_cases hcb : c = b
  · subst hcb
    rw [Buffers.read_write hva, Buffers.read_write_other _ _ hab.symm, Buffers.read_write hm]
  · rw [Buffers.read_write_other _ _ hcb]
    by_cases hca : c = a
    · subst hca
      rw [Buffers.read_write hm, Buffers.read_write hwb]
    · rw [Buffers.read_write_other _ _ hca, Buffers.read_write_other _ _ hca,
        Buffers.read_write_other _ _ hcb]

end Sys2Proof.Machine
end

section
/-! SUPPORT. What a command depends on: it makes the same writes in any two states that look the
same to it. -/

namespace Sys2Proof.Machine

/-! ## Values read from a table -/

/-- `table[P].TBL` is the same in s and t. -/
def State.sameTable (p : Profile) (s t : State) : Prop :=
  match p with
  | .p01 => s.t01.tbl = t.t01.tbl
  | .p04 => s.t04.tbl = t.t04.tbl
  | .p05 => s.t05.tbl = t.t05.tbl

section
variable {s t : State} {p : Profile} (h : s.sameTable p t) (hcfg : s.cfg = t.cfg)
include h

theorem State.sameTable.tableEntry (a : Byte) : s.tableEntry p a = t.tableEntry p a := by
  cases p <;> simp only [State.sameTable] at h <;> simp only [State.tableEntry, h]

theorem State.sameTable.stepValue (hport : s.port = t.port) (a : Byte) :
    s.stepValue p a = t.stepValue p a := by
  cases p <;> simp only [State.sameTable] at h <;> simp only [State.stepValue, h, hport]

include hcfg

theorem State.sameTable.crcValue (d : Half) (cb : Byte) (pl : List Byte) :
    s.crcValue p d cb pl = t.crcValue p d cb pl := by
  cases p <;> simp only [State.sameTable] at h <;> simp only [State.crcValue, h, hcfg]

theorem State.sameTable.frame (d : Half) (cnt : Nibble) (pl : List Byte) :
    s.frame p d cnt pl = t.frame p d cnt pl := by
  cases p <;> simp only [State.sameTable] at h <;> simp only [State.frame, h, hcfg]

theorem State.sameTable.verdict (sl : Slot) (fr : List Byte) :
    s.verdict p sl fr = t.verdict p sl fr := by
  have hcrc : s.crcMatches p sl.dataId fr = t.crcMatches p sl.dataId fr := by
    cases p <;> simp only [State.sameTable] at h <;> simp only [State.crcMatches, h, hcfg]
  simp only [State.verdict, hcrc]

end

theorem State.sameTable_of_built {s t : State} {p : Profile} (hs : s.tableBuilt p)
    (ht : t.tableBuilt p) (hcfg : s.cfg = t.cfg) : s.sameTable p t := by
  cases p <;> simp only [State.tableBuilt] at hs ht <;> simp only [State.sameTable, hs, ht, hcfg]

/-! ## Writes -/

/-- What a command writes: whether it ensures its table, the addressed slot, OUT, the response. -/
structure Writes where
  table : Bool
  slot : Option Slot
  frame : Option (List Byte)
  answer : Response

/-- The state after the writes of a command of profile p. -/
def Writes.apply (w : Writes) (p : Profile) (s : State) : State :=
  let ensured := if w.table then s.ensureTable p else s
  let written := w.slot.elim ensured (ensured.setSlot s.port.inst)
  (w.frame.elim written written.memWrite).respond w.answer.status w.answer.res

/-- The rejection with STATUS st. -/
def Writes.rejection (st : Status) : Writes := ⟨false, none, none, ⟨st, 0⟩⟩

section
variable (w : Writes) (p : Profile) (s : State)

@[simp] theorem Writes.apply_cfg : (w.apply p s).cfg = s.cfg := by
  obtain ⟨_ | _, _ | _, _ | _, _⟩ := w <;> simp [Writes.apply]

@[simp] theorem Writes.apply_port : (w.apply p s).port = s.port := by
  obtain ⟨_ | _, _ | _, _ | _, _⟩ := w <;> simp [Writes.apply]

@[simp] theorem Writes.apply_agents : (w.apply p s).agents = s.agents := by
  obtain ⟨_ | _, _ | _, _ | _, _⟩ := w <;> simp [Writes.apply]

@[simp] theorem Writes.apply_events : (w.apply p s).events = s.events := by
  obtain ⟨_ | _, _ | _, _ | _, _⟩ := w <;> simp [Writes.apply]

@[simp] theorem Writes.apply_resp : (w.apply p s).resp = some w.answer := rfl

@[simp] theorem Writes.apply_slots :
    (w.apply p s).slots = w.slot.elim s.slots (s.slots.set s.port.inst) := by
  obtain ⟨_ | _, _ | _, _ | _, _⟩ := w <;> simp [Writes.apply]

@[simp] theorem Writes.apply_buffers :
    (w.apply p s).buffers = w.frame.elim s.buffers (s.buffers.write s.port.out) := by
  obtain ⟨_ | _, _ | _, _ | _, _⟩ := w <;> simp [Writes.apply]

@[simp] theorem Writes.apply_t01 : (w.apply p s).t01 =
    if w.table = true ∧ p = .p01 then s.t01.ensure s.cfg.poly8 (reflected .p01) else s.t01 := by
  obtain ⟨_ | _, _ | _, _ | _, _⟩ := w <;> cases p <;> rfl

@[simp] theorem Writes.apply_t04 : (w.apply p s).t04 =
    if w.table = true ∧ p = .p04 then s.t04.ensure s.cfg.poly32 (reflected .p04) else s.t04 := by
  obtain ⟨_ | _, _ | _, _ | _, _⟩ := w <;> cases p <;> rfl

@[simp] theorem Writes.apply_t05 : (w.apply p s).t05 =
    if w.table = true ∧ p = .p05 then s.t05.ensure s.cfg.poly16 (reflected .p05) else s.t05 := by
  obtain ⟨_ | _, _ | _, _ | _, _⟩ := w <;> cases p <;> rfl

end

/-- What a command of profile p reads is the same in s and t; the table is read once ensured. -/
structure LooksSame (p : Profile) (s t : State) : Prop where
  cfg : s.cfg = t.cfg
  port : s.port = t.port
  input : s.input = t.input
  length : s.slots.length = t.slots.length
  admission : ∀ e, s.admission p e = t.admission p e
  table : (s.ensureTable p).sameTable p (t.ensureTable p)

theorem LooksSame.ensured {p : Profile} {s t : State} (h : LooksSame p s t) :
    (s.ensureTable p).cfg = (t.ensureTable p).cfg := by simpa using h.cfg

/-- A frame emitted with a chosen counter. -/
theorem emitFrame_writes (p : Profile) (sl : Slot) (cnt : Nibble) (s : State) :
    ∃ w : Writes, ∀ t, LooksSame p s t → emitFrame p sl cnt t = .next (w.apply p t) := by
  refine ⟨⟨true, some { sl with pcnt := cnt },
    some ((s.ensureTable p).frame p sl.dataId cnt s.input), ⟨.frameTrue, 0⟩⟩, fun t h => ?_⟩
  rw [h.table.frame h.ensured, h.input]
  rfl

/-- The length of the header that a command of operation o puts before its input (R301). -/
def outputHeader (o : Operation) (p : Profile) : Nat :=
  if o = .tryProtect ∨ o = .tryForward then headerLen p else 0

/-- A command on a constructed slot that is not admitted is rejected. -/
theorem family_of_not_admitted {o : Operation} {p : Profile} {a : Byte} {s : State} {st : Status}
    (ho : o ∈ [.computeCrc, .tryProtect, .tryForward, .check])
    (h : s.admission p (outputHeader o p) = .error st) : family o p a s = reject st s := by
  cases o with
  | construct => exact absurd ho (by decide)
  | initTable => exact absurd ho (by decide)
  | tableRead => exact absurd ho (by decide)
  | crcStep => exact absurd ho (by decide)
  | computeCrc =>
    have h : s.admission p 0 = .error st := h
    simp [family, computeCrc, h]
  | tryProtect =>
    have h : s.admission p (headerLen p) = .error st := h
    simp [family, tryProtect, h]
  | tryForward =>
    have h : s.admission p (headerLen p) = .error st := h
    simp [family, tryForward, h]
  | check =>
    have h : s.admission p 0 = .error st := h
    simp [family, check, h]

/-- For a command on a constructed slot, only the admitted case is left to look at. -/
theorem family_writes_of_admitted {o : Operation} {p : Profile} {a : Byte} {s : State}
    (ho : o ∈ [.computeCrc, .tryProtect, .tryForward, .check])
    (hok : ∀ sl, ∃ w : Writes, ∀ t, LooksSame p s t →
      t.admission p (outputHeader o p) = .ok sl → family o p a t = .next (w.apply p t)) :
    ∃ w : Writes, ∀ t, LooksSame p s t → family o p a t = .next (w.apply p t) := by
  cases hadm : s.admission p (outputHeader o p) with
  | error st =>
    exact ⟨.rejection st, fun t h =>
      (family_of_not_admitted ho (h.admission _ ▸ hadm)).trans rfl⟩
  | ok sl =>
    obtain ⟨w, hw⟩ := hok sl
    exact ⟨w, fun t h => hw t h (h.admission _ ▸ hadm)⟩

/-- The writes of a command are the same in all states that look the same to it. -/
theorem exec_writes (i : Instr) (s : State) :
    ∃ w : Writes, ∀ t, LooksSame i.profile s t → exec i t = .next (w.apply i.profile t) := by
  simp only [exec_eq_family]
  generalize i.profile = p
  generalize i.arg8 = a
  cases i.op with
  | construct =>
    by_cases hk : s.slots.length ≤ s.port.inst
    · refine ⟨.rejection .rejInstance, fun t h => ?_⟩
      rw [h.length, h.port] at hk
      exact if_pos hk
    · refine ⟨⟨false, some ⟨.active p, opaDataId s.port.opa, opaMaxDelta s.port.opa, 0, 0⟩, none,
        ⟨.done, 0⟩⟩, fun t h => ?_⟩
      rw [h.length, h.port] at hk
      rw [h.port]
      exact if_neg hk
  | initTable => exact ⟨⟨true, none, none, ⟨.done, 0⟩⟩, fun t _ => rfl⟩
  | tableRead =>
    refine ⟨⟨true, none, none, ⟨.done, (s.ensureTable p).tableEntry p a⟩⟩, fun t h => ?_⟩
    rw [h.table.tableEntry]
    rfl
  | crcStep =>
    refine ⟨⟨true, none, none, ⟨.done, (s.ensureTable p).stepValue p a⟩⟩, fun t h => ?_⟩
    rw [h.table.stepValue (by simpa using h.port)]
    rfl
  | computeCrc =>
    refine family_writes_of_admitted (by decide) fun sl =>
      ⟨⟨true, none, none, ⟨.done, (s.ensureTable p).crcValue p sl.dataId a s.input⟩⟩,
        fun t h hadm => ?_⟩
    have hadm : t.admission p 0 = .ok sl := hadm
    rw [h.table.crcValue h.ensured, h.input, family, computeCrc, hadm]
    rfl
  | tryProtect =>
    refine family_writes_of_admitted (by decide) fun sl => ?_
    by_cases hin : s.input = []
    · exact ⟨⟨false, none, none, ⟨.inputFalse, 0⟩⟩, fun t h hadm =>
        tryProtect_of_empty (State.admit_header_ok.1 hadm) (h.input ▸ hin)⟩
    · obtain ⟨w, hw⟩ := emitFrame_writes p sl (counterInc sl.pcnt (cmax p)) s
      exact ⟨w, fun t h hadm => (tryProtect_of_admitsOutput (State.admit_header_ok.1 hadm)
        (h.input ▸ hin)).trans (hw t h)⟩
  | tryForward =>
    refine family_writes_of_admitted (by decide) fun sl => ?_
    by_cases hin : s.input = []
    · exact ⟨⟨false, none, none, ⟨.inputFalse, 0⟩⟩, fun t h hadm =>
        tryForward_of_empty (State.admit_header_ok.1 hadm) (h.input ▸ hin)⟩
    · obtain ⟨w, hw⟩ := emitFrame_writes p sl sl.ccnt s
      exact ⟨w, fun t h hadm => (tryForward_of_admitsOutput (State.admit_header_ok.1 hadm)
        (h.input ▸ hin)).trans (hw t h)⟩
  | check =>
    refine family_writes_of_admitted (by decide) fun sl => ?_
    by_cases hn : s.input.length < headerLen p + 1
    · exact ⟨⟨false, none, none, ⟨.kNoNewData, 0⟩⟩, fun t h hadm =>
        check_of_short hadm (h.input ▸ hn)⟩
    · refine ⟨⟨true, some { sl with ccnt := recvCounter p s.input }, none,
        ⟨(s.ensureTable p).verdict p sl s.input, 0⟩⟩, fun t h hadm => ?_⟩
      rw [h.table.verdict h.ensured, h.input]
      exact check_of_long hadm (h.input ▸ hn)

/-- Whatever stands in the port, its run makes the same writes in all states that look the same to
every command. -/
theorem runPort_writes (s : State) :
    ∃ p, ∃ w : Writes, ∀ t, LooksSame p s t → runPort t = .next (w.apply p t) := by
  cases hdec : decode s.port.word with
  | illegal r =>
    refine ⟨.p01, .rejection (illegalStatus r), fun t h => ?_⟩
    rw [h.port] at hdec
    exact runPort_of_illegal hdec
  | command i =>
    obtain ⟨w, hw⟩ := exec_writes i s
    refine ⟨i.profile, w, fun t h => ?_⟩
    rw [← hw t h, runPort, ← h.port, hdec]

end Sys2Proof.Machine
end

section
/-! SUPPORT. Values that the spec leaves unspecified after power-on, and whether a table is built
yet, are never observed (10_state.md R33, R45): states that differ only in these look the same to
every command. -/

namespace Sys2Proof.Machine

theorem sameSlots_refl (xs : List Slot) : sameSlots xs xs :=
  List.forall₂_same.2 fun _ _ => .inl rfl

theorem sameSlots_getElem? {xs ys : List Slot} (h : sameSlots xs ys) (k : Nat) :
    Option.Rel Slot.same xs[k]? ys[k]? := by
  induction h generalizing k with
  | nil => exact .none
  | cons hxy _ ih =>
    cases k with
    | zero => exact .some hxy
    | succ k => simpa using ih k

theorem sameSlots_set {xs ys : List Slot} (h : sameSlots xs ys) (k : Nat) (sl : Slot) :
    sameSlots (xs.set k sl) (ys.set k sl) := by
  induction h generalizing k with
  | nil => exact .nil
  | cons hxy hrest ih =>
    cases k with
    | zero => exact .cons (.inl rfl) hrest
    | succ k => exact .cons hxy (ih k)

/-- Admission reads TYPE alone of an UNCONSTRUCTED slot (R45). -/
theorem State.admission_of_same {s t : State} (p : Profile) (e : Nat) (hcfg : s.cfg = t.cfg)
    (hin : s.input = t.input) (haddr : Option.Rel Slot.same s.addressed t.addressed) :
    s.admission p e = t.admission p e := by
  rw [State.addressed, State.addressed] at haddr
  simp only [State.admission, hcfg, hin]
  generalize s.slots[s.port.inst]? = x at haddr ⊢
  generalize t.slots[t.port.inst]? = y at haddr ⊢
  cases haddr with
  | none => rfl
  | some hsame =>
    rcases hsame with rfl | ⟨hx, hy⟩
    · rfl
    · simp [hx, hy]

theorem State.observablySame.input_eq {s t : State} (h : s.observablySame t) :
    s.input = t.input :=
  State.input_congr h.port h.buffers

theorem State.observablySame.looksSame {s t : State} (h : s.observablySame t) (hs : s.tablesOk)
    (ht : t.tablesOk) (p : Profile) : LooksSame p s t where
  cfg := h.cfg
  port := h.port
  input := h.input_eq
  length := h.slots.length_eq
  admission e := State.admission_of_same p e h.cfg h.input_eq (by
    rw [State.addressed, State.addressed, h.port]
    exact sameSlots_getElem? h.slots _)
  table := State.sameTable_of_built (State.ensureTable_built p hs) (State.ensureTable_built p ht)
    (by simpa using h.cfg)

theorem State.observablySame_refl (s : State) : s.observablySame s :=
  ⟨rfl, sameSlots_refl _, rfl, rfl, rfl, rfl, rfl⟩

theorem State.observablySame.apply {s t : State} (h : s.observablySame t) (w : Writes)
    (p : Profile) : (w.apply p s).observablySame (w.apply p t) where
  cfg := by simpa using h.cfg
  slots := by
    rw [Writes.apply_slots, Writes.apply_slots, h.port]
    cases w.slot with
    | none => exact h.slots
    | some sl => exact sameSlots_set h.slots _ sl
  port := by simpa using h.port
  resp := rfl
  buffers := by simp [h.buffers, h.port]
  agents := by simpa using h.agents
  events := by simpa using h.events

/-- Both states meet R32, and no command can tell them apart. -/
structure Indistinguishable (s t : State) : Prop where
  same : s.observablySame t
  left : s.tablesOk
  right : t.tablesOk

/-- The run of the port's command keeps two states indistinguishable. -/
theorem Indistinguishable.runPort {s t s' : State} (h : Indistinguishable s t)
    (hs' : runPort s = .next s') : ∃ t', runPort t = .next t' ∧ Indistinguishable s' t' := by
  obtain ⟨hsame, hs, ht⟩ := h
  obtain ⟨p, w, hw⟩ := runPort_writes s
  obtain rfl : w.apply p s = s' :=
    Host.Outcome.next.inj ((hw s (s.observablySame_refl.looksSame hs hs p)).symm.trans hs')
  have ht' := hw t (hsame.looksSame hs ht p)
  obtain ⟨_, hes⟩ := effect_of_runPort hs'
  obtain ⟨_, het⟩ := effect_of_runPort ht'
  exact ⟨_, ht', hsame.apply w p, hes.tablesOk hs, het.tablesOk ht⟩

theorem State.observablySame.powerOnReset {s t : State} (h : s.observablySame t) :
    s.powerOnReset.observablySame t.powerOnReset := by
  refine { h with slots := ?_ }
  rw [State.powerOnReset_slots, State.powerOnReset_slots, h.slots.length_eq]
  exact sameSlots_refl _

/-- Two indistinguishable states take the same event, and step to indistinguishable states. -/
theorem Indistinguishable.step {s t s' : State} (h : Indistinguishable s t)
    (hstep : step s = .next s') : ∃ t', step t = .next t' ∧ Indistinguishable s' t' := by
  obtain ⟨hsame, hs, ht⟩ := h
  rcases s.fetch_cases with
    ⟨he, hf⟩ | ⟨es, he, hf⟩ | ⟨a, es, he, hq, hf⟩ | ⟨a, es, c, q, he, hq, hf⟩
  · obtain rfl := Host.Outcome.next.inj ((step_of_idle hf).symm.trans hstep)
    have hft : t.fetch = .idle t := by simp [State.fetch, ← hsame.events, he]
    exact ⟨_, step_of_idle hft, hsame, hs, ht⟩
  · obtain rfl := Host.Outcome.next.inj ((step_of_idle hf).symm.trans hstep)
    have hft : t.fetch = .idle { t with events := es }.powerOnReset := by
      simp [State.fetch, ← hsame.events, he]
    exact ⟨_, step_of_idle hft, State.observablySame.powerOnReset { hsame with events := rfl },
      State.tablesOk_of_unbuilt rfl rfl rfl, State.tablesOk_of_unbuilt rfl rfl rfl⟩
  · obtain rfl := Host.Outcome.next.inj ((step_of_idle hf).symm.trans hstep)
    have hft : t.fetch = .idle { t with events := es } := by
      rcases hq with hq | hq <;> simp [State.fetch, ← hsame.events, ← hsame.agents, he, hq]
    exact ⟨_, step_of_idle hft, { hsame with events := rfl }, hs, ht⟩
  · rw [step_of_command hf] at hstep
    have hft : t.fetch =
        .command { t with events := es, agents := t.agents.set a q, port := c } := by
      simp [State.fetch, ← hsame.events, ← hsame.agents, he, hq]
    have hsame' : State.observablySame
        { s with events := es, agents := s.agents.set a q, port := c }
        { t with events := es, agents := t.agents.set a q, port := c } :=
      { hsame with port := rfl, events := rfl, agents := congrArg (·.set a q) hsame.agents }
    rw [step_of_command hft]
    exact Indistinguishable.runPort ⟨hsame', hs, ht⟩ hstep

/-- Settles O12: the two states take the same event, and the port's command makes the same writes in
both. -/
theorem unspecifiedStateIsNeverObserved : Obligations.UnspecifiedStateIsNeverObserved := by
  intro s t s' hs ht h hstep
  obtain ⟨t', ht', hsame, hs', ht''⟩ := Indistinguishable.step ⟨h, hs, ht⟩ hstep
  exact ⟨t', ht', hsame, hs', ht''⟩

end Sys2Proof.Machine
end

section
/-! SUPPORT. Interleavings of agents are serial (20_memory.md R74): a command writes the same to the
block whatever stands in the queues and the event list. -/

namespace Sys2Proof.Machine

/-- The block, the response and the host's buffers are the same in s and t: all but the port, the
agents' queues and the events. -/
structure State.sameBlock (s t : State) : Prop where
  cfg : s.cfg = t.cfg
  t01 : s.t01 = t.t01
  t04 : s.t04 = t.t04
  t05 : s.t05 = t.t05
  slots : s.slots = t.slots
  resp : s.resp = t.resp
  buffers : s.buffers = t.buffers

theorem State.sameBlock.withPort {s t : State} (h : s.sameBlock t) (c : Command) :
    State.sameBlock { s with port := c } { t with port := c } := { h with }

theorem State.sameBlock.trans {s t u : State} (h : s.sameBlock t) (h' : t.sameBlock u) :
    s.sameBlock u :=
  ⟨h.cfg.trans h'.cfg, h.t01.trans h'.t01, h.t04.trans h'.t04, h.t05.trans h'.t05,
    h.slots.trans h'.slots, h.resp.trans h'.resp, h.buffers.trans h'.buffers⟩

theorem State.sameBlock.looksSame {s t : State} (h : s.sameBlock t) (hport : s.port = t.port)
    (p : Profile) : LooksSame p s t where
  cfg := h.cfg
  port := hport
  input := State.input_congr hport h.buffers
  length := congrArg List.length h.slots
  admission e := State.admission_of_same p e h.cfg (State.input_congr hport h.buffers) (by
    rw [State.addressed, State.addressed, h.slots, hport]
    exact sameSlots_getElem? (sameSlots_refl _) _)
  table := by
    cases p <;> simp [State.sameTable, h.cfg, h.t01, h.t04, h.t05]

theorem State.sameBlock.apply {s t : State} (h : s.sameBlock t) (hport : s.port = t.port)
    (w : Writes) (p : Profile) : (w.apply p s).sameBlock (w.apply p t) := by
  constructor <;> simp [h.cfg, h.t01, h.t04, h.t05, h.slots, h.buffers, hport]

theorem State.sameBlock.runPort {s t s' : State} (h : s.sameBlock t) (hport : s.port = t.port)
    (hs' : runPort s = .next s') : ∃ t', runPort t = .next t' ∧ s'.sameBlock t' := by
  obtain ⟨p, w, hw⟩ := runPort_writes s
  obtain rfl : w.apply p s = s' := Host.Outcome.next.inj
    ((hw s (State.sameBlock.looksSame ⟨rfl, rfl, rfl, rfl, rfl, rfl, rfl⟩ rfl p)).symm.trans hs')
  exact ⟨_, hw t (h.looksSame hport p), h.apply hport w p⟩

theorem State.sameBlock.serialRun {s t : State} (h : s.sameBlock t) (cs : List Command) :
    (serialRun cs s).sameBlock (serialRun cs t) := by
  induction cs generalizing s t with
  | nil => exact h
  | cons c cs ih =>
    obtain ⟨s', p, hs', -⟩ := runPort_effect { s with port := c }
    obtain ⟨t', ht', hsame⟩ := (h.withPort c).runPort rfl hs'
    simpa [Machine.serialRun, hs', ht'] using ih hsame

theorem steps_succ {n : Nat} {s t : State} (h : steps (n + 1) s = some t) :
    ∃ u, step s = .next u ∧ steps n u = some t := by
  obtain ⟨u, hu, -⟩ := step_effect s
  exact ⟨u, hu, by simpa [steps, hu] using h⟩

/-- The commands of agent a in a total order, in that order. -/
def commandsOf (order : List (Nat × Command)) (a : Nat) : List Command :=
  (order.filter (fun x => x.1 = a)).map Prod.snd

theorem commandsOf_cons (x : Nat × Command) (order : List (Nat × Command)) (a : Nat) :
    commandsOf (x :: order) a =
      if x.1 = a then x.2 :: commandsOf order a else commandsOf order a := by
  by_cases h : x.1 = a <;> simp [commandsOf, h]

/-- `order` is a total order of the commands that agents issued in s and no longer wait in t, and
running it serially from s gives the block of t. -/
structure Serialises (order : List (Nat × Command)) (s t : State) : Prop where
  queues : ∀ a, commandsOf order a ++ t.agents.getD a [] = s.agents.getD a []
  block : t.sameBlock (serialRun (order.map Prod.snd) s)

theorem StepEffect.events {s t : State} (h : StepEffect s t) : t.events = s.events.tail := by
  cases h with
  | idle => rfl
  | powerOn _ => rfl
  | ran _ _ h =>
    obtain ⟨p, he⟩ := effect_of_runPort h
    exact he.keepsPort.events

/-- A step without a power-on reset runs at most one command, and that one first. -/
theorem StepEffect.serialises {s u t : State} {order : List (Nat × Command)}
    (h : StepEffect s u) (hev : s.events.head? ≠ some .powerOn) (ho : Serialises order u t) :
    ∃ order', Serialises order' s t := by
  obtain ⟨hqueues, hblock⟩ := ho
  cases h with
  | idle =>
    have hsame : State.sameBlock { s with events := s.events.tail } s :=
      ⟨rfl, rfl, rfl, rfl, rfl, rfl, rfl⟩
    exact ⟨order, hqueues, hblock.trans (hsame.serialRun _)⟩
  | powerOn h => exact absurd h hev
  | @ran a c q _ hev hq hrun =>
    have hsame : (s.granted a c q).sameBlock { s with port := c } :=
      ⟨rfl, rfl, rfl, rfl, rfl, rfl, rfl⟩
    obtain ⟨v, hv, hsame⟩ := hsame.runPort rfl hrun
    refine ⟨(a, c) :: order, fun b => ?_, hblock.trans ?_⟩
    · obtain ⟨p, he⟩ := effect_of_runPort hrun
      have hlt : a < s.agents.length := (List.getElem?_eq_some_iff.1 hq).1
      have hb := hqueues b
      rw [he.keepsPort.agents, State.granted] at hb
      rw [commandsOf_cons]
      by_cases hab : a = b
      · subst hab
        rw [if_pos rfl, List.cons_append, hb, List.getD_eq_getElem?_getD,
          List.getD_eq_getElem?_getD, List.getElem?_set_self hlt, hq]
        rfl
      · rw [if_neg hab, hb, List.getD_eq_getElem?_getD, List.getD_eq_getElem?_getD,
          List.getElem?_set_ne hab]
    · simpa [Machine.serialRun, hv] using hsame.serialRun _

theorem forall_mem_take_succ {α : Type} {P : α → Prop} {n : Nat} {l : List α} :
    (∀ x ∈ l.take (n + 1), P x) ↔ (∀ x ∈ l.head?, P x) ∧ ∀ x ∈ l.tail.take n, P x := by
  cases l <;> simp

theorem exists_serialises (n : Nat) {s t : State} (h : steps n s = some t)
    (hev : ∀ e ∈ s.events.take n, e ≠ .powerOn) : ∃ order, Serialises order s t := by
  induction n generalizing s with
  | zero =>
    obtain rfl : s = t := Option.some.inj h
    exact ⟨[], fun _ => rfl, rfl, rfl, rfl, rfl, rfl, rfl, rfl⟩
  | succ n ih =>
    obtain ⟨hhead, htail⟩ := forall_mem_take_succ.1 hev
    obtain ⟨u, hu, hrest⟩ := steps_succ h
    have he := stepEffect_of_step hu
    obtain ⟨order, ho⟩ := ih hrest (he.events ▸ htail)
    exact he.serialises (fun h' => hhead .powerOn h' rfl) ho

/-- Settles O6: by induction on the steps; each puts at most one command before the rest. -/
theorem interleavingsAreSerial : Obligations.InterleavingsAreSerial := by
  intro n s t h hev
  obtain ⟨order, hqueues, hblock⟩ := exists_serialises n h hev
  refine ⟨order, hqueues, ?_⟩
  rintro u rfl
  exact ⟨hblock.t01, hblock.t04, hblock.t05, hblock.slots, hblock.resp, hblock.buffers, hblock.cfg⟩

end Sys2Proof.Machine
end

section
/-! SUPPORT. Commands on different slots commute (10_state.md R39, 60_exceptions.md R316): each
finds the same before and after the other. -/

namespace Sys2Proof.Machine

@[simp] theorem TableUnit.ensure_ensure {w : Nat} (poly : BitVec w) (refl : Bool)
    (t : TableUnit w) : (t.ensure poly refl).ensure poly refl = t.ensure poly refl :=
  if_pos (TableUnit.ensure_valid poly refl t)

section
variable {s : State} {x y : Command} (w : Writes) (p q : Profile)

/-- A command looks the same before and after one on another slot, if it reads no buffer. -/
theorem looksSame_after {bs : List Byte} (hinst : y.inst ≠ x.inst) (hin : y.input = .bytes bs) :
    LooksSame q { s with port := y } { w.apply p { s with port := x } with port := y } where
  cfg := by simp
  port := rfl
  input := by simp [State.input, hin]
  length := by cases hw : w.slot <;> simp [hw]
  admission e := State.admission_of_same q e (by simp) (by simp [State.input, hin]) (by
    have hslot : (w.slot.elim s.slots (s.slots.set x.inst))[y.inst]? = s.slots[y.inst]? := by
      cases w.slot with
      | none => rfl
      | some sl => exact List.getElem?_set_ne hinst.symm
    simpa [State.addressed, hslot] using sameSlots_getElem? (sameSlots_refl s.slots) y.inst)
  table := by
    cases q
    · simp only [State.sameTable, State.ensureTable_p01_t01, Writes.apply_t01, Writes.apply_cfg]
      split_ifs <;> simp
    · simp only [State.sameTable, State.ensureTable_p04_t04, Writes.apply_t04, Writes.apply_cfg]
      split_ifs <;> simp
    · simp only [State.sameTable, State.ensureTable_p05_t05, Writes.apply_t05, Writes.apply_cfg]
      split_ifs <;> simp

end

/-- Settles O47: each command makes the same writes before and after the other, and writes to
different slots and buffers, and EnsureTable, commute. -/
theorem commandsOnDifferentSlotsCommute : Obligations.CommandsOnDifferentSlotsCommute := by
  intro i j s a b c d x y bx bj hinst hout hx hy hwf ha hb hc hd
  obtain ⟨w, hw⟩ := exec_writes i { s with port := x }
  obtain ⟨v, hv⟩ := exec_writes j { s with port := y }
  have self (p : Profile) (u : State) : LooksSame p u u :=
    State.sameBlock.looksSame ⟨rfl, rfl, rfl, rfl, rfl, rfl, rfl⟩ rfl p
  obtain rfl := Host.Outcome.next.inj (ha.symm.trans (hw _ (self _ _)))
  obtain rfl := Host.Outcome.next.inj (hc.symm.trans (hv _ (self _ _)))
  obtain rfl := Host.Outcome.next.inj
    (hb.symm.trans (hv _ (looksSame_after w i.profile j.profile hinst.symm hy)))
  obtain rfl := Host.Outcome.next.inj
    (hd.symm.trans (hw _ (looksSame_after v j.profile i.profile hinst hx)))
  refine ⟨?_, ?_, ?_, ?_, ?_⟩
  · simp only [Writes.apply_slots]
    cases w.slot <;> cases v.slot <;> simp [List.set_comm _ _ hinst]
  · simp only [Writes.apply_buffers]
    cases w.frame <;> cases v.frame <;> simp [Buffers.write_comm hwf hout]
  · simp only [Writes.apply_t01, Writes.apply_cfg]
    split_ifs <;> rfl
  · simp only [Writes.apply_t04, Writes.apply_cfg]
    split_ifs <;> rfl
  · simp only [Writes.apply_t05, Writes.apply_cfg]
    split_ifs <;> rfl

end Sys2Proof.Machine
end

section
/-! SUPPORT. Admission and responses (60_exceptions.md R300, R301, R305, 30_encoding.md R97, R98),
and the units a command writes (10_state.md R41, 20_memory.md R63 to R65). -/

namespace Sys2Proof.Machine

/-! ## Admission -/

section
variable {s : State} {p : Profile} {sl : Slot} (e : Nat)

theorem State.admission_of_out_of_range (h : s.slots.length ≤ s.port.inst) :
    s.admission p e = .error .rejInstance := by
  simp [State.admission, h]

variable (haddr : s.addressed = some sl)
include haddr

theorem State.admission_of_unconstructed (h : sl.type = .unconstructed) :
    s.admission p e = .error .rejUnconstructed := by
  rw [State.addressed] at haddr
  simp [State.admission, haddr, h]

theorem State.admission_of_mismatch {q : Profile} (h : sl.type = .active q) (hq : q ≠ p) :
    s.admission p e = .error .rejMismatch := by
  rw [State.addressed] at haddr
  simp [State.admission, haddr, h, hq]

/-- The output frame is at least as long as the input, so its test covers both (R301). -/
theorem State.admission_of_too_long {m : Nat} (h : sl.type = .active p)
    (hm : s.cfg.maxFrameLen = some m) (hlen : m < e + s.input.length) :
    s.admission p e = .error .rejLength := by
  rw [State.addressed] at haddr
  simp [State.admission, haddr, h, hm, tooLong, hlen]

end

/-- Settles O13: the first admission test that fails gives the STATUS, and a rejection writes the
response only. -/
theorem admissionRejectsInOrder : Obligations.AdmissionRejectsInOrder := by
  intro i s
  have rejects {st : Status} (hop : i.op ∈ [.computeCrc, .tryProtect, .tryForward, .check])
      (h : s.admission i.profile (outputHeader i.op i.profile) = .error st) :
      exec i s = .next { s with resp := some ⟨st, 0⟩ } :=
    (exec_eq_family i s).trans (family_of_not_admitted hop h)
  refine ⟨fun hop hk => ?_, fun hop => ⟨?_, ?_, ?_⟩, ?_⟩
  · rcases List.mem_cons.1 hop with hop | hop
    · rw [exec_eq_family, hop]
      exact if_pos hk
    · exact rejects hop (State.admission_of_out_of_range _ hk)
  · exact fun sl haddr htype => rejects hop (State.admission_of_unconstructed _ haddr htype)
  · exact fun sl q haddr htype hq => rejects hop (State.admission_of_mismatch _ haddr htype hq)
  · exact fun sl m haddr htype hm hlen =>
      rejects hop (State.admission_of_too_long _ haddr htype hm (Nat.lt_add_left _ hlen))
  · intro hop sl m haddr htype hm hlen
    have hheader : outputHeader i.op i.profile = headerLen i.profile := if_pos (by simpa using hop)
    have hslot : ∀ o ∈ [Operation.tryProtect, .tryForward],
        o ∈ [Operation.computeCrc, .tryProtect, .tryForward, .check] := by decide
    exact rejects (hslot _ hop)
      (State.admission_of_too_long _ haddr htype hm (hheader ▸ hlen))

/-! ## Responses -/

/-- The responses that a command of an operation can give (R97, R98). -/
inductive Answer : Operation → Response → Prop where
  | constructed : Answer .construct ⟨.done, 0⟩
  | noSlot : Answer .construct ⟨.rejInstance, 0⟩
  | tableBuilt : Answer .initTable ⟨.done, 0⟩
  | result {o : Operation} (res : Word) (ho : o ∈ [.tableRead, .crcStep, .computeCrc]) :
    Answer o ⟨.done, res⟩
  | emptyInput {o : Operation} (ho : o ∈ [.tryProtect, .tryForward]) : Answer o ⟨.inputFalse, 0⟩
  | emitted {o : Operation} (ho : o ∈ [.tryProtect, .tryForward]) : Answer o ⟨.frameTrue, 0⟩
  | checked {st : Status}
    (hst : st ∈ [.kOk, .kRepeated, .kWrongSequence, .kWrongCrc, .kNoNewData]) :
    Answer .check ⟨st, 0⟩
  | notAdmitted {o : Operation} {st : Status}
    (ho : o ∈ [.computeCrc, .tryProtect, .tryForward, .check])
    (hst : st ∈ [.rejInstance, .rejUnconstructed, .rejMismatch, .rejLength]) : Answer o ⟨st, 0⟩

theorem classify_mem (dl : Int) (m : Byte) :
    classify dl m ∈ [.kOk, .kRepeated, .kWrongSequence] := by
  unfold classify
  split_ifs <;> decide

theorem State.verdict_mem (s : State) (p : Profile) (sl : Slot) (fr : List Byte) :
    s.verdict p sl fr ∈ [.kOk, .kRepeated, .kWrongSequence, .kWrongCrc, .kNoNewData] := by
  unfold State.verdict
  split
  · exact List.mem_append_left [.kWrongCrc, .kNoNewData] (classify_mem _ _)
  · decide

theorem State.admission_error_mem {s : State} {p : Profile} {e : Nat} {st : Status}
    (h : s.admission p e = .error st) :
    st ∈ [.rejInstance, .rejUnconstructed, .rejMismatch, .rejLength] := by
  rcases State.admit_error h with rfl | rfl | rfl | rfl <;> decide

theorem family_answer (o : Operation) (p : Profile) (a : Byte) (s : State) :
    ∃ t r, family o p a s = .next t ∧ t.resp = some r ∧ Answer o r := by
  cases o with
  | construct =>
    rcases construct_cases p s with ⟨-, h⟩ | ⟨-, h⟩
    · exact ⟨_, _, h, rfl, .noSlot⟩
    · exact ⟨_, _, h, rfl, .constructed⟩
  | initTable => exact ⟨_, _, rfl, rfl, .tableBuilt⟩
  | tableRead => exact ⟨_, _, rfl, rfl, .result _ (by decide)⟩
  | crcStep => exact ⟨_, _, rfl, rfl, .result _ (by decide)⟩
  | computeCrc =>
    rcases computeCrc_cases p a s with ⟨st, he, h⟩ | ⟨sl, -, h⟩
    · exact ⟨_, _, h, rfl, .notAdmitted (by decide) (State.admission_error_mem he)⟩
    · exact ⟨_, _, h, rfl, .result _ (by decide)⟩
  | tryProtect =>
    rcases tryProtect_cases p s with ⟨st, he, h⟩ | ⟨sl, -, -, h⟩ | ⟨sl, -, -, h⟩
    · exact ⟨_, _, h, rfl, .notAdmitted (by decide) (State.admission_error_mem he)⟩
    · exact ⟨_, _, h, rfl, .emptyInput (by decide)⟩
    · exact ⟨_, _, h, rfl, .emitted (by decide)⟩
  | tryForward =>
    rcases tryForward_cases p s with ⟨st, he, h⟩ | ⟨sl, -, -, h⟩ | ⟨sl, -, -, h⟩
    · exact ⟨_, _, h, rfl, .notAdmitted (by decide) (State.admission_error_mem he)⟩
    · exact ⟨_, _, h, rfl, .emptyInput (by decide)⟩
    · exact ⟨_, _, h, rfl, .emitted (by decide)⟩
  | check =>
    rcases check_cases p s with ⟨st, he, h⟩ | ⟨sl, -, -, h⟩ | ⟨sl, -, -, h⟩
    · exact ⟨_, _, h, rfl, .notAdmitted (by decide) (State.admission_error_mem he)⟩
    · exact ⟨_, _, h, rfl, .checked (by decide)⟩
    · exact ⟨_, _, h, rfl, .checked (State.verdict_mem _ _ _ _)⟩

theorem exec_answer {i : Instr} {s t : State} {r : Response} (h : exec i s = .next t)
    (hr : t.resp = some r) : Answer i.op r := by
  obtain ⟨t', r', ht', hr', hans⟩ := family_answer i.op i.profile i.arg8 s
  obtain rfl : t' = t := Host.Outcome.next.inj (ht'.symm.trans ((exec_eq_family i s).symm.trans h))
  obtain rfl : r' = r := Option.some.inj (hr'.symm.trans hr)
  exact hans

theorem Status.code_injective : Function.Injective Status.code := fun st st' =>
  by cases st <;> cases st' <;> decide

/-- The operations that return a STATUS (R97). -/
theorem Answer.operations {o : Operation} {r : Response} (h : Answer o r) :
    (r.status = .done → o ∈ [.construct, .initTable, .tableRead, .crcStep, .computeCrc]) ∧
    (r.status ∈ [.frameTrue, .inputFalse] → o ∈ [.tryProtect, .tryForward]) ∧
    (r.status ∈ [.kOk, .kRepeated, .kWrongSequence, .kWrongCrc, .kNoNewData] → o = .check) ∧
    (r.status ≠ .rejOpcode ∧ r.status ≠ .rejProfile ∧ r.status ≠ .rejArg) ∧
    (r.status = .rejInstance → o ∈ [.construct, .computeCrc, .tryProtect, .tryForward, .check]) ∧
    (r.status ∈ [.rejUnconstructed, .rejMismatch, .rejLength] →
      o ∈ [.computeCrc, .tryProtect, .tryForward, .check]) := by
  cases h with
  | constructed => decide
  | noSlot => decide
  | tableBuilt => decide
  | result res ho => exact ⟨fun _ => by revert o; decide, by simp⟩
  | emptyInput ho => simp [ho]
  | emitted ho => simp [ho]
  | @checked st hst =>
    revert st
    decide
  | @notAdmitted o st ho hst =>
    revert st
    revert o
    decide

/-- Settles O15: the codes are evaluated STATUS by STATUS, and `Answer` lists what each operation
returns. -/
theorem statusesByCommand : Obligations.StatusesByCommand :=
  ⟨by decide, fun st => by cases st <;> decide, fun st => by cases st <;> decide,
    fun _ _ h => Status.code_injective h, fun _ _ _ _ h hr => (exec_answer h hr).operations⟩

/-- Settles O16: of the answers, only `result` carries a RES of its own. -/
theorem resIsZeroElsewhere : Obligations.ResIsZeroElsewhere := by
  intro i s t r h hr hres
  have hans := exec_answer h hr
  generalize i.op = o at hans ⊢
  cases hans with
  | result res ho => exact ⟨rfl, ho⟩
  | constructed => exact absurd rfl hres
  | noSlot => exact absurd rfl hres
  | tableBuilt => exact absurd rfl hres
  | emptyInput _ => exact absurd rfl hres
  | emitted _ => exact absurd rfl hres
  | checked _ => exact absurd rfl hres
  | notAdmitted _ _ => exact absurd rfl hres

/-! ## The units written -/

theorem effect_of_exec {i : Instr} {s t : State} (h : exec i s = .next t) :
    Effect i.profile s t := by
  obtain ⟨t', ht', he⟩ := exec_effect i s
  obtain rfl : t' = t := Host.Outcome.next.inj (ht'.symm.trans h)
  exact he

/-- A command writes no buffer, or OUT's with the answer TRUE. -/
theorem Effect.buffers {p : Profile} {s t : State} (h : Effect p s t) :
    t.buffers = s.buffers ∨
      (∃ v, t.buffers = s.buffers.write s.port.out v) ∧ t.resp = some ⟨.frameTrue, 0⟩ := by
  cases h with
  | respond _ => exact .inl rfl
  | construct _ _ => exact .inl rfl
  | result _ => exact .inl (by simp)
  | frame _ _ v _ => exact .inr ⟨⟨v, by simp⟩, rfl⟩
  | checked _ _ _ => exact .inl (by simp)

/-- Settles O20: a frame emitted is the only write to a buffer, and answers TRUE. -/
theorem onlyEmittedFramesTouchBuffers : Obligations.OnlyEmittedFramesTouchBuffers := by
  intro i s t r h hr
  have he := effect_of_exec h
  obtain ⟨-, htrue, -⟩ := (exec_answer h hr).operations
  refine ⟨fun hst => ?_, fun hst => htrue (by simp [hst]), fun a ha => ?_, he.keepsPort⟩
  · rcases he.buffers with hb | ⟨-, hresp⟩
    · exact hb
    · obtain rfl : (⟨.frameTrue, 0⟩ : Response) = r := Option.some.inj (hresp.symm.trans hr)
      exact absurd rfl hst
  · rcases he.buffers with hb | ⟨⟨v, hb⟩, -⟩
    · rw [hb]
    · rw [hb, Buffers.read_write_other _ _ ha]

theorem keepsOtherTables_trans {p : Profile} {s t u : State} (h : keepsOtherTables p s t)
    (h' : keepsTables t u) : keepsOtherTables p s u := by
  obtain ⟨h1, h4, h5⟩ := h'
  cases p
  · exact ⟨h4.trans h.1, h5.trans h.2⟩
  · exact ⟨h1.trans h.1, h5.trans h.2⟩
  · exact ⟨h1.trans h.1, h4.trans h.2⟩

theorem keepsOtherTables_refl (p : Profile) (s : State) : keepsOtherTables p s s := by
  cases p <;> exact ⟨rfl, rfl⟩

theorem Effect.keepsOtherTables {p : Profile} {s t : State} (h : Effect p s t) :
    keepsOtherTables p s t := by
  rcases h.tables with ht | ht
  · exact keepsOtherTables_trans (keepsOtherTables_refl p s) ht
  · exact keepsOtherTables_trans (State.ensureTable_keeps p s) ht

theorem Effect.keepsOtherSlots {p : Profile} {s t : State} (h : Effect p s t) :
    keepsOtherSlots s.port.inst s t := by
  refine ⟨h.length, fun j hj => ?_⟩
  cases h with
  | respond _ => rfl
  | construct _ _ => simp [Ne.symm hj]
  | result _ => simp
  | frame _ _ _ _ => simp [Ne.symm hj]
  | checked _ _ _ => simp [Ne.symm hj]

theorem SlotWrite.op_mem {p : Profile} {s : State} {o : Operation} {st : Status} {sl tl : Slot}
    (h : SlotWrite p s sl o st tl) : o ∈ [.construct, .tryProtect, .tryForward, .check] := by
  cases h <;> decide

/-- Settles O21: by the effects of a command on the tables and on the slots (R41). -/
theorem commandsTouchTheirOwnUnitsOnly : Obligations.CommandsTouchTheirOwnUnitsOnly := by
  intro i s t h
  have he := effect_of_exec h
  refine ⟨he.keepsOtherTables, he.keepsOtherSlots, fun hop => ?_, fun hop => ?_⟩
  · obtain ⟨t', st, res, ht', -, hb⟩ := exec_bankEffect i s
    obtain rfl : t' = t := Host.Outcome.next.inj (ht'.symm.trans h)
    rcases hb with ⟨hslots, -⟩ | ⟨sl, tl, -, -, hw⟩
    · exact hslots
    · have hdisjoint : ∀ o ∈ [.initTable, .tableRead, .crcStep, .computeCrc],
          o ∉ [Operation.construct, .tryProtect, .tryForward, .check] := by decide
      exact absurd hw.op_mem (hdisjoint _ hop)
  · rw [exec_eq_family, hop] at h
    rcases construct_cases i.profile s with ⟨-, hc⟩ | ⟨-, hc⟩
    · obtain rfl := Host.Outcome.next.inj (hc.symm.trans h)
      exact ⟨rfl, rfl, rfl⟩
    · obtain rfl := Host.Outcome.next.inj (hc.symm.trans h)
      exact ⟨rfl, rfl, rfl⟩

end Sys2Proof.Machine
end

section
/-! SUPPORT. The table commands (40_crc_table.md R136 to R142, 41_crc_datapaths.md R151 to R153,
R162 to R168) and CRC_BYTES (30_encoding.md R107), in states that meet R32. -/

namespace Sys2Proof.Machine

/-! ## EnsureTable under R32 -/

section
variable {s : State} (h : s.tablesOk)
include h

theorem State.ensureTable_p01_of_ok : s.ensureTable .p01 = { s with t01 := ⟨T01 s.cfg, true⟩ } :=
  congrArg (fun u => { s with t01 := u }) (TableUnit.ensure_eq h.1)

theorem State.ensureTable_p04_of_ok : s.ensureTable .p04 = { s with t04 := ⟨T04 s.cfg, true⟩ } :=
  congrArg (fun u => { s with t04 := u }) (TableUnit.ensure_eq h.2.1)

theorem State.ensureTable_p05_of_ok : s.ensureTable .p05 = { s with t05 := ⟨T05 s.cfg, true⟩ } :=
  congrArg (fun u => { s with t05 := u }) (TableUnit.ensure_eq h.2.2)

end

@[simp] theorem State.tableBuilt_respond {s : State} {p : Profile} {st : Status} {res : Word} :
    (s.respond st res).tableBuilt p ↔ s.tableBuilt p := by
  cases p <;> rfl

/-- A command that ensures its table and answers with a result writes nothing else. -/
theorem ensureTable_respond_frame {s : State} (h : s.tablesOk) (p : Profile)
    (res : Word) (t : State) (ht : t = (s.ensureTable p).respond .done res) :
    t.tableBuilt p ∧ keepsOtherTables p s t ∧ KeepsPort s t ∧ t.slots = s.slots ∧
      t.buffers = s.buffers := by
  subst ht
  exact ⟨State.tableBuilt_respond.2 (State.ensureTable_built p h),
    keepsOtherTables_trans (State.ensureTable_keeps p s) ⟨rfl, rfl, rfl⟩,
    (Effect.result res).keepsPort, by simp, by simp⟩

/-! ## INIT_TABLE, TABLE_READ, CRC_STEP, COMPUTE_CRC -/

theorem State.ensureTable_respond_ensureTable (p : Profile) (s : State) (st : Status) (res : Word) :
    ((s.ensureTable p).respond st res).ensureTable p = (s.ensureTable p).respond st res := by
  cases p <;> simp [State.ensureTable, State.respond]

/-- Settles O22: EnsureTable leaves the table built, and a built table as it is. -/
theorem initTableBuilds : Obligations.InitTableBuilds := by
  intro i s hop hs
  have hexec (u : State) : exec i u = .next ((u.ensureTable i.profile).respond .done 0) := by
    rw [exec_eq_family, hop]
    rfl
  obtain ⟨hbuilt, htables, hport, hslots, hbuf⟩ :=
    ensureTable_respond_frame hs i.profile 0 _ rfl
  refine ⟨_, hexec s, hbuilt, htables, hport, hslots, hbuf, rfl, ?_⟩
  rw [hexec, State.ensureTable_respond_ensureTable]
  rfl

/-- Settles O23: the entry is read from the table just ensured, which is BuildTable's. -/
theorem tableReadReturnsTheEntry : Obligations.TableReadReturnsTheEntry := by
  intro s x hs
  refine ⟨⟨_, rfl, ?_, ?_⟩, ⟨_, rfl, ?_, ?_⟩, ⟨_, rfl, ?_, ?_⟩⟩
  · simp [State.ensureTable_p01_of_ok hs, State.tableEntry, T01, reflected]
  · rw [State.ensureTable_p01_of_ok hs]
    rfl
  · simp [State.ensureTable_p04_of_ok hs, State.tableEntry, T04, reflected]
  · rw [State.ensureTable_p04_of_ok hs]
    rfl
  · simp [State.ensureTable_p05_of_ok hs, State.tableEntry, T05, reflected]
  · rw [State.ensureTable_p05_of_ok hs]
    rfl

/-- Settles O24: the step reads the table just ensured, and at each width is the step of R151,
R152, R153. -/
theorem crcStepAdvancesTheRegister : Obligations.CrcStepAdvancesTheRegister := by
  intro s x hs
  refine ⟨⟨_, rfl, ?_, ?_⟩, ⟨_, rfl, ?_, ?_⟩, ⟨_, rfl, ?_, ?_⟩⟩
  · simp [State.ensureTable_p01_of_ok hs, State.stepValue, reflected, crcStep, stepMsb, opaCrc]
  · rw [State.ensureTable_p01_of_ok hs]
    rfl
  · simp [State.ensureTable_p04_of_ok hs, State.stepValue, reflected, crcStep, stepLsb, opaCrc]
  · rw [State.ensureTable_p04_of_ok hs]
    rfl
  · simp [State.ensureTable_p05_of_ok hs, State.stepValue, reflected, crcStep, stepLsb, opaCrc]
  · rw [State.ensureTable_p05_of_ok hs]
    rfl

/-- Settles O30: the CRC is made with the table just ensured (`State.crcValue_of_built`). -/
theorem computeCrcReturnsTheCrc : Obligations.ComputeCrcReturnsTheCrc := by
  intro i s sl hop hs ha
  have hexec : exec i s = .next ((s.ensureTable i.profile).respond .done
      ((s.ensureTable i.profile).crcValue i.profile sl.dataId i.arg8 s.input)) := by
    rw [exec_eq_family, hop]
    simp only [family, computeCrc, State.admit_zero_ok.2 ha]
  refine ⟨_, hexec, ?_, ensureTable_respond_frame hs i.profile _ _ rfl⟩
  rw [State.respond_resp, State.crcValue_of_built (State.ensureTable_built _ hs),
    State.ensureTable_cfg]

/-! ## CRC_BYTES -/

/-- CrcRun of profile p from the low bits of c, extended to RES (R151 to R153, R155). -/
def crcRunWord (cfg : Config) (p : Profile) (c : Word) (bs : List Byte) : Word :=
  match p with
  | .p01 => (crcRun false (T01 cfg) (c.setWidth 8) bs).setWidth 32
  | .p04 => crcRun true (T04 cfg) c bs
  | .p05 => (crcRun true (T05 cfg) (c.setWidth 16) bs).setWidth 32

theorem crcRunWord_cons (cfg : Config) (p : Profile) (c : Word) (b : Byte) (bs : List Byte) :
    crcRunWord cfg p c (b :: bs) = crcRunWord cfg p (crcRunWord cfg p c [b]) bs := by
  cases p <;> simp [crcRunWord]

theorem stepValue_of_built {s : State} {p : Profile} (h : s.tableBuilt p) (b : Byte) :
    s.stepValue p b = crcRunWord s.cfg p s.port.opa [b] := by
  cases p <;> simp only [State.tableBuilt] at h <;>
    simp [State.stepValue, h, crcRunWord, reflected, opaCrc]

theorem runPort_crcStep {s : State} {p : Profile} {b : Byte}
    (h : decode s.port.word = .command (.of .crcStep p b)) :
    runPort s =
      .next ((s.ensureTable p).respond .done ((s.ensureTable p).stepValue p b)) := by
  rw [runPort, h]
  cases p <;> rfl

theorem State.run_of_step {s t : State} {c : Command} (h : step (s.issue c) = .next t) :
    s.run c = t := by
  rw [State.run, h]

/-- The host's CRC_STEP line takes one step from its operand. -/
theorem run_crcStep {s : State} (hs : s.tablesOk) (p : Profile) (c : Word) (b : Byte) :
    ∃ t, s.run (Line.crcStep p c b).assemble = t ∧ t.tablesOk ∧ t.cfg = s.cfg ∧
      t.lastRes = crcRunWord s.cfg p c [b] := by
  obtain ⟨ag, hstep⟩ := step_issue s (Line.crcStep p c b).assemble
  obtain ⟨u, hu⟩ : ∃ u, { s with port := (Line.crcStep p c b).assemble, agents := ag } = u :=
    ⟨_, rfl⟩
  have hdec : decode u.port.word = .command (.of .crcStep p b) := by
    rw [← hu, decode_assemble_word, Line.instr]
  have htables : u.tablesOk := by rwa [← hu]
  rw [hu, runPort_crcStep hdec] at hstep
  refine ⟨_, State.run_of_step hstep, State.ensureTable_tablesOk p htables, ?_, ?_⟩
  · simp [← hu]
  · rw [State.lastRes, State.respond_resp, stepValue_of_built (State.ensureTable_built p htables),
      State.ensureTable_cfg, State.ensureTable_port, ← hu]
    rfl

theorem crcBytes_eq {s : State} (hs : s.tablesOk) (p : Profile) (c : Word) {bs : List Byte}
    (hne : bs ≠ []) : (crcBytes p c bs s).1 = crcRunWord s.cfg p c bs := by
  induction bs generalizing s c with
  | nil => exact absurd rfl hne
  | cons b bs ih =>
    obtain ⟨t, ht, htables, hcfg, hres⟩ := run_crcStep hs p c b
    rw [crcBytes, ht, hres]
    cases bs with
    | nil => rfl
    | cons b' bs => rw [ih htables _ (List.cons_ne_nil _ _), hcfg, ← crcRunWord_cons]

/-- Settles O49, by induction on the bytes, each line taking RES of the one before
(`crcBytes_eq`). -/
theorem crcBytesRunsTheWholeCrc : Obligations.CrcBytesRunsTheWholeCrc :=
  fun _ c _ hs => ⟨fun _ => rfl, fun hne =>
    ⟨crcBytes_eq hs .p01 c hne, crcBytes_eq hs .p04 c hne, crcBytes_eq hs .p05 c hne⟩⟩

end Sys2Proof.Machine
end

section
/-! SUPPORT. The slot commands that answer (43_profile01.md, 44_profile04.md, 45_profile05.md): the
slot that CONSTRUCT makes, the frames that the TRY commands emit, what CHECK makes of a frame, and
the two put together. -/

namespace Sys2Proof.Machine

/-! ## Little-endian bytes -/

theorem fromLE_two (a b : Byte) : fromLE 16 [a, b] = b ++ a := by
  have h := setWidth_append_eq_or b a 16
  rw [BitVec.setWidth_eq] at h
  simp [fromLE, h, BitVec.or_comm]

theorem fromLE_four (a b c d : Byte) : fromLE 32 [a, b, c, d] = d ++ c ++ b ++ a := by
  have h := setWidth_append_eq_or (d ++ c ++ b) a 32
  rw [BitVec.setWidth_eq, setWidth_append_eq_or, setWidth_append_eq_or] at h
  simp [fromLE, h, BitVec.or_comm]

theorem fromLE_le16 (v : BitVec 16) : fromLE 16 (le16 v) = v :=
  calc fromLE 16 (le16 v)
    _ = v.extractLsb' 8 8 ++ v.extractLsb' 0 8 := fromLE_two _ _
    _ = v.extractLsb' 0 16 := BitVec.extractLsb'_append_extractLsb'_eq_extractLsb' rfl
    _ = v := BitVec.extractLsb'_eq_self

theorem fromLE_le32 (v : BitVec 32) : fromLE 32 (le32 v) = v := 
  calc fromLE 32 (le32 v)
    _ = v.extractLsb' 24 8 ++ v.extractLsb' 16 8 ++ v.extractLsb' 8 8 ++ v.extractLsb' 0 8 :=
      fromLE_four _ _ _ _
    _ = v.extractLsb' 16 16 ++ v.extractLsb' 8 8 ++ v.extractLsb' 0 8 :=
      congrArg (· ++ v.extractLsb' 8 8 ++ v.extractLsb' 0 8)
        (BitVec.extractLsb'_append_extractLsb'_eq_extractLsb' rfl)
    _ = v.extractLsb' 8 24 ++ v.extractLsb' 0 8 :=
      congrArg (· ++ v.extractLsb' 0 8) (BitVec.extractLsb'_append_extractLsb'_eq_extractLsb' rfl)
    _ = v.extractLsb' 0 32 := BitVec.extractLsb'_append_extractLsb'_eq_extractLsb' rfl
    _ = v := BitVec.extractLsb'_eq_self

theorem le16_fromLE (a b : Byte) : le16 (fromLE 16 [a, b]) = [a, b] := by
  have h := fromLE_le16 (fromLE 16 [a, b])
  rw [le16, fromLE_two, fromLE_two, append_eq_append_iff] at h
  rw [le16, fromLE_two, h.1, h.2]

theorem le32_fromLE (a b c d : Byte) : le32 (fromLE 32 [a, b, c, d]) = [a, b, c, d] := by
  have h := fromLE_le32 (fromLE 32 [a, b, c, d])
  rw [le32, fromLE_four, fromLE_four] at h
  obtain ⟨h, ha⟩ := append_eq_append_iff.1 h
  obtain ⟨h, hb⟩ := append_eq_append_iff.1 h
  obtain ⟨hd, hc⟩ := append_eq_append_iff.1 h
  rw [le32, fromLE_four, ha, hb, hc, hd]

/-- Settles O40: reading bytes back appends them in reverse order, of which LE16 and LE32 take the
parts. -/
theorem littleEndianRoundTrip : Obligations.LittleEndianRoundTrip :=
  ⟨fromLE_le16, fromLE_le32, le16_fromLE, le32_fromLE⟩

theorem fromLE_eq_iff_le16 {xs : List Byte} (h : xs.length = 2) (v : BitVec 16) :
    fromLE 16 xs = v ↔ xs = le16 v := by
  obtain ⟨a, b, rfl⟩ := List.length_eq_two.1 h
  exact ⟨fun hv => by rw [← hv, le16_fromLE], fun hv => by rw [hv, fromLE_le16]⟩

theorem fromLE_eq_iff_le32 {xs : List Byte} (h : xs.length = 4) (v : BitVec 32) :
    fromLE 32 xs = v ↔ xs = le32 v := by
  obtain ⟨a, b, c, d, rfl⟩ : ∃ a b c d, xs = [a, b, c, d] := by
    match xs, h with
    | [a, b, c, d], _ => exact ⟨a, b, c, d, rfl⟩
  exact ⟨fun hv => by rw [← hv, le32_fromLE], fun hv => by rw [hv, fromLE_le32]⟩

/-! ## CONSTRUCT -/

/-- Settles O29: INST is in range, so CONSTRUCT is not rejected; OPA is cut as R95 says. -/
theorem constructMakesTheSlot : Obligations.ConstructMakesTheSlot := by
  intro i s hop hk
  have hid : opaDataId s.port.opa = s.port.opa.setWidth 16 :=
    (BitVec.setWidth_eq_extractLsb' (by decide)).symm
  have hmax : opaMaxDelta s.port.opa = (s.port.opa >>> 16).setWidth 8 :=
    BitVec.eq_of_toNat_eq (by simp [opaMaxDelta])
  rw [exec_eq_family, hop, ← hid, ← hmax]
  exact if_neg (Nat.not_le.2 hk)

/-! ## Frames emitted -/

theorem tableBuilt_of_keepsTables {s t : State} {p : Profile} (h : s.tableBuilt p)
    (hcfg : t.cfg = s.cfg) (ht : keepsTables s t) : t.tableBuilt p := by
  obtain ⟨h1, h4, h5⟩ := ht
  cases p
  · exact h1.trans (hcfg ▸ h)
  · exact h4.trans (hcfg ▸ h)
  · exact h5.trans (hcfg ▸ h)

/-- What a TRY command answered TRUE leaves behind when the frame carries counter c (R206, R207). -/
structure Emitted (p : Profile) (sl : Slot) (c : Nibble) (s t : State) : Prop where
  resp : t.resp = some ⟨.frameTrue, 0⟩
  slots : t.slots = s.slots.set s.port.inst { sl with pcnt := c }
  frame : t.buffers.read s.port.out = frameOf s.cfg p sl.dataId c s.input
  otherBuffers : keepsOtherBuffers s.port.out s t
  built : t.tableBuilt p
  otherTables : keepsOtherTables p s t
  port : KeepsPort s t
  tables : t.tablesOk

theorem emitFrame_emitted {p : Profile} {s : State} {sl : Slot} (hs : s.tablesOk)
    (haddr : s.addressed = some sl) (c : Nibble) :
    ∃ t, emitFrame p sl c s = .next t ∧ Emitted p sl c s t := by
  have he := Effect.frame (p := p) sl c ((s.ensureTable p).frame p sl.dataId c s.input) haddr
  have hbuilt := State.ensureTable_built p hs
  refine ⟨_, rfl, rfl, by simp, ?_, fun a ha => by simp [Buffers.read_write_other _ _ ha],
    tableBuilt_of_keepsTables hbuilt rfl ⟨rfl, rfl, rfl⟩, he.keepsOtherTables, he.keepsPort,
    he.tablesOk hs⟩
  simpa [Buffers.read_write_of_ne_nil _ _ (State.frame_ne_nil _ _ _ _ _)] using
    State.frame_of_built hbuilt sl.dataId c s.input

theorem exec_try_emitted {i : Instr} {s : State} {sl : Slot}
    (hop : i.op = .tryProtect ∨ i.op = .tryForward) (hs : s.tablesOk)
    (ha : s.admitsOutput i.profile sl) (hin : s.input ≠ []) :
    ∃ t, exec i s = .next t ∧ Emitted i.profile sl (emittedCounter i.op i.profile sl) s t := by
  rw [exec_try_eq_emitFrame hop ha hin]
  exact emitFrame_emitted hs ha.1.1 _

/-- Settles O31: the emitted frame carries the increment of PCNT (R180). -/
theorem tryProtectEmitsTheNextFrame : Obligations.TryProtectEmitsTheNextFrame := by
  intro i s sl hop hs ha hin
  obtain ⟨t, ht, he⟩ := exec_try_emitted (.inl hop) hs ha hin
  rw [emittedCounter, if_pos hop] at he
  exact ⟨t, _, ht, rfl, he.resp, he.slots, he.frame, he.otherBuffers, he.built, he.otherTables,
    he.port⟩

/-- Settles O32: the emitted frame carries CCNT. -/
theorem tryForwardEmitsTheCheckedCounter : Obligations.TryForwardEmitsTheCheckedCounter := by
  intro i s sl hop hs ha hin
  obtain ⟨t, ht, he⟩ := exec_try_emitted (.inr hop) hs ha hin
  rw [emittedCounter, if_neg (by simp [hop])] at he
  exact ⟨t, ht, he.resp, he.slots, he.frame, he.otherBuffers, he.built, he.otherTables, he.port⟩

/-! ## Frames checked -/

/-- Settles O34: CHECK tests the length right after admission. -/
theorem shortBuffersAreNoNewData : Obligations.ShortBuffersAreNoNewData := by
  intro i s sl hop ha hn
  rw [exec_eq_family, hop]
  exact check_of_short (State.admit_zero_ok.2 ha) hn

theorem memRead_zero (xs : List Byte) (m : Nat) : memRead xs 0 m = xs.take m := rfl

theorem memRead_to_end (xs : List Byte) (n : Nat) : memRead xs n (xs.length - n) = xs.drop n :=
  List.take_of_length_le (by simp)

/-- CHECK's comparison against a built table is that of R209, R239, R269. -/
theorem State.crcMatches_iff {s : State} {p : Profile} (h : s.tableBuilt p) (d : Half)
    {fr : List Byte} (hlen : headerLen p + 1 ≤ fr.length) :
    s.crcMatches p d fr = true ↔ crcOk s.cfg p d fr := by
  cases p with
  | p01 =>
    have ht : s.t01 = { tbl := T01 s.cfg, valid := true } := h
    have hbyte : fr.take 1 = [byteAt fr 0] := by
      cases fr with
      | nil => simp at hlen
      | cons b rest => rfl
    rw [crcOk, hbyte, List.singleton_inj, State.crcMatches, beq_iff_eq, eq_comm]
    simp only [decode01, memRead_to_end, ht, crc01, crcInput01, reflected, xorOut01, byteAt,
      List.cons_append, List.nil_append]
  | p04 =>
    have ht : s.t04 = { tbl := T04 s.cfg, valid := true } := h
    have htake : (fr.take 4).length = 4 :=
      List.length_take_of_le (le_trans (by decide : 4 ≤ headerLen .p04 + 1) hlen)
    rw [crcOk, ← fromLE_eq_iff_le32 htake, State.crcMatches, beq_iff_eq, eq_comm]
    simp only [decode04, memRead_zero, memRead_to_end, ht, crc04, crcInput04, reflected, init04,
      xorOut04, byteAt, List.cons_append, List.nil_append]
  | p05 =>
    have ht : s.t05 = { tbl := T05 s.cfg, valid := true } := h
    have htake : (fr.take 2).length = 2 :=
      List.length_take_of_le (le_trans (by decide : 2 ≤ headerLen .p05 + 1) hlen)
    rw [crcOk, ← fromLE_eq_iff_le16 htake, State.crcMatches, beq_iff_eq, eq_comm]
    simp only [decode05, memRead_zero, memRead_to_end, ht, crc05, crcInput05, reflected, init05,
      xorOut05, byteAt, List.cons_append, List.nil_append, BitVec.ofNat_eq_ofNat, BitVec.xor_zero]

/-- The verdict on a frame with a right or a wrong CRC (R184, R186). -/
theorem State.verdict_outcome {s : State} {p : Profile} (h : s.tableBuilt p) (sl : Slot)
    {fr : List Byte} (hlen : headerLen p + 1 ≤ fr.length) :
    CheckOutcome (crcOk s.cfg p sl.dataId fr) (frameCounter p fr) sl.ccnt sl.maxDelta
      (s.verdict p sl fr) := by
  have hiff := State.crcMatches_iff h sl.dataId hlen
  rw [State.verdict, recvCounter_eq_frameCounter]
  by_cases hc : crcOk s.cfg p sl.dataId fr
  · rw [if_pos (hiff.2 hc), eq_true hc]
    exact classify_delta _ _ _
  · rw [if_neg (mt hiff.1 hc), eq_false hc]
    exact ⟨fun _ => rfl, nofun, nofun, nofun, nofun⟩

/-- What a CHECK that reads a counter leaves behind (R186, R209, R239, R269). -/
structure Checked (p : Profile) (sl : Slot) (s t : State) (st : Status) : Prop where
  resp : t.resp = some ⟨st, 0⟩
  outcome : CheckOutcome (crcOk s.cfg p sl.dataId s.input) (frameCounter p s.input) sl.ccnt
    sl.maxDelta st
  slots : t.slots = s.slots.set s.port.inst { sl with ccnt := frameCounter p s.input }
  built : t.tableBuilt p
  otherTables : keepsOtherTables p s t
  port : KeepsPort s t
  buffers : t.buffers = s.buffers
  tables : t.tablesOk

theorem exec_check_checked {i : Instr} {s : State} {sl : Slot} (hop : i.op = .check)
    (hs : s.tablesOk) (ha : s.admits i.profile sl)
    (hlen : headerLen i.profile + 1 ≤ s.input.length) :
    ∃ t st, exec i s = .next t ∧ Checked i.profile sl s t st := by
  have hexec := check_of_long (State.admit_zero_ok.2 ha) (Nat.not_lt.2 hlen)
  rw [show check i.profile s = exec i s by rw [exec_eq_family, hop]; rfl] at hexec
  have hbuilt := State.ensureTable_built i.profile hs
  have he := effect_of_exec hexec
  refine ⟨_, _, hexec, rfl, ?_, by simp [recvCounter_eq_frameCounter],
    tableBuilt_of_keepsTables hbuilt rfl ⟨rfl, rfl, rfl⟩, he.keepsOtherTables, he.keepsPort,
    by simp, he.tablesOk hs⟩
  simpa using State.verdict_outcome hbuilt sl hlen

/-- Settles O35, by `exec_check_checked`. -/
theorem checkClassifiesTheFrame : Obligations.CheckClassifiesTheFrame := by
  intro i s sl hop hs ha hlen
  obtain ⟨t, st, ht, hc⟩ := exec_check_checked hop hs ha hlen
  exact ⟨t, st, ht, hc.resp, hc.outcome, hc.slots, hc.built, hc.otherTables, hc.port, hc.buffers⟩

/-! ## Protection end to end -/

theorem length_frameOf (c : Config) (p : Profile) (d : Half) (cnt : Nibble) (pl : List Byte) :
    (frameOf c p d cnt pl).length = headerLen p + pl.length := by
  cases p <;> simp [frameOf, headerLen] <;> omega

theorem frameCounter_frameOf (c : Config) (p : Profile) (d : Half) (cnt : Nibble)
    (pl : List Byte) : frameCounter p (frameOf c p d cnt pl) = cnt := by
  have hbyte (x : Nibble) : (x ++ cnt).setWidth 4 = cnt := BitVec.setWidth_append_eq_right
  cases p <;> exact hbyte _

/-- The CRC field that a frame is built with is the one CHECK computes. -/
theorem crcOk_frameOf (c : Config) (p : Profile) (d : Half) (cnt : Nibble) (pl : List Byte) :
    crcOk c p d (frameOf c p d cnt pl) := by
  cases p with
  | p01 => simp [crcOk, frameOf, crcOf]
  | p04 => rfl
  | p05 =>
    rw [crcOk, frameOf, crcOf, BitVec.extractLsb'_setWidth_of_le (by decide),
      BitVec.extractLsb'_setWidth_of_le (by decide)]
    rfl

/-- A CHECK of a frame that is neither too long nor too short, on a slot that serves it. -/
theorem State.Serves.exec_check {i : Instr} {s : State} {cfg : Config} {sl : Slot} {c : Command}
    {fr : List Byte} (h : s.Serves cfg i.profile c.inst sl) (hop : i.op = .check)
    (hin : ({ s with port := c } : State).input = fr)
    (hshort : tooLong cfg.maxFrameLen fr.length = false)
    (hlen : headerLen i.profile + 1 ≤ fr.length) :
    ∃ t st, exec i { s with port := c } = .next t ∧ t.resp = some ⟨st, 0⟩ ∧
      CheckOutcome (crcOk cfg i.profile sl.dataId fr) (frameCounter i.profile fr) sl.ccnt
        sl.maxDelta st ∧
      t.slots = s.slots.set c.inst { sl with ccnt := frameCounter i.profile fr } := by
  obtain ⟨rfl, htables, hslot, htype⟩ := h
  subst hin
  have ha : ({ s with port := c } : State).admits i.profile sl := ⟨hslot, htype, hshort⟩
  obtain ⟨t, st, ht, hc⟩ := exec_check_checked (s := { s with port := c }) hop htables ha hlen
  exact ⟨t, st, ht, hc.resp, hc.outcome, hc.slots⟩

/-- A frame emitted, checked from the buffer it was written to by a slot of the same profile and
DataID. -/
theorem exec_check_emitted {k : Instr} {s t : State} {sl rl : Slot} {c : Nibble} {cmd : Command}
    (hop : k.op = .check) (ha : s.admitsOutput k.profile sl) (hin : s.input ≠ [])
    (he : Emitted k.profile sl c s t) (hcmd : cmd.input = .buffer s.port.out)
    (hrl : t.slots[cmd.inst]? = some rl) (htype : rl.type = .active k.profile)
    (hid : rl.dataId = sl.dataId) :
    ∃ u st, exec k { t with port := cmd } = .next u ∧ u.resp = some ⟨st, 0⟩ ∧
      CheckOutcome True c rl.ccnt rl.maxDelta st ∧
      u.slots = t.slots.set cmd.inst { rl with ccnt := c } := by
  have hinput : ({ t with port := cmd } : State).input =
      frameOf s.cfg k.profile rl.dataId c s.input := by
    rw [hid, ← he.frame]
    simp only [State.input, hcmd]
  have hserves : t.Serves s.cfg k.profile cmd.inst rl := ⟨he.port.cfg, he.tables, hrl, htype⟩
  have hpos : 0 < s.input.length := List.length_pos_iff.2 hin
  obtain ⟨u, st, hu, hresp, hout, hslots⟩ := hserves.exec_check hop hinput
    (by rw [length_frameOf]; exact ha.2) (by rw [length_frameOf]; omega)
  rw [frameCounter_frameOf] at hout hslots
  rw [eq_true (crcOk_frameOf _ _ _ _ _)] at hout
  exact ⟨u, st, hu, hresp, hout, hslots⟩

/-- Settles O42: the emitted frame is right (`crcOk_frameOf`) and carries c
(`frameCounter_frameOf`). -/
theorem emittedFramesPassTheCheck : Obligations.EmittedFramesPassTheCheck := by
  intro e k s t sl rl cmd heop hkop hprof hs ha hin ht hcmd hrl htype hid
  obtain ⟨t', ht', he⟩ := exec_try_emitted (by simpa using heop) hs ha hin
  obtain rfl : t' = t := Host.Outcome.next.inj (ht'.symm.trans ht)
  rw [← hprof] at ha he htype
  obtain ⟨u, st, hu⟩ := exec_check_emitted hkop ha hin he hcmd hrl htype hid
  exact ⟨_, u, st, by rw [emittedCounter, hprof], hu⟩

/-- Settles O43: the sender emits counter 1, and 1 is a step within the maximum delta from
baseline 0. -/
theorem firstExchangeIsOk : Obligations.FirstExchangeIsOk := by
  intro e k s sl rl cmd heop hkop hprof hs ha hin hinst hrl htype hid hpcnt hccnt hdelta hcmd
  obtain ⟨t, ht, he⟩ := exec_try_emitted (.inl heop) hs ha hin
  have hone : emittedCounter e.op e.profile sl = 1 := by
    rw [emittedCounter, if_pos heop, hpcnt]
    cases e.profile <;> rfl
  rw [hone] at he
  rw [← hprof] at ha he htype
  have hrl' : t.slots[cmd.inst]? = some rl := by
    rw [he.slots, List.getElem?_set_ne hinst.symm, hrl]
  obtain ⟨u, st, hu, hresp, hout, hslots⟩ := exec_check_emitted hkop ha hin he hcmd hrl' htype hid
  obtain rfl : st = .kOk := hout.ok trivial (by simp [hccnt]) (by simpa [hccnt] using hdelta)
  refine ⟨t, u, ht, hu, hresp, ?_⟩
  obtain ⟨hlt, -⟩ := List.getElem?_eq_some_iff.1 hrl'
  rw [hslots, List.getElem?_set_self hlt]

theorem cmax_pos (p : Profile) : 0 < (cmax p).toNat := by
  cases p <;> decide

/-- Settles O46: 0 is behind CMAX, and 1 is one step from 0, which the first CHECK made the
baseline. -/
theorem counterWrapIsOneWrongSequence : Obligations.CounterWrapIsOneWrongSequence := by
  intro i s sl cmd fr hop hs ha hlen hcrc hbase hzero hinst hcmd hlen' hshort hcrc' hone
  obtain ⟨t, st, ht, hc⟩ := exec_check_checked hop hs ha hlen
  obtain rfl : st = .kWrongSequence :=
    hc.outcome.backward hcrc (by simpa [hzero, hbase] using cmax_pos i.profile)
  have hserves := exec_check_serves hop hs ha ht hc.resp nofun
  rw [← hinst] at hserves
  obtain ⟨u, st', hu, hresp, hout, -⟩ := hserves.exec_check (c := cmd) hop
    (by simp only [State.input, hcmd]) hshort hlen'
  rw [hone] at hout
  have hslots := hc.slots
  rw [hzero] at hslots
  refine ⟨t, u, ht, hc.resp, hslots, hu, fun hm => ?_, fun hm => ?_⟩
  · rw [hresp, hout.ok hcrc' (by simp [hzero]) (by simpa [hzero] using hm)]
  · rw [hresp, hout.jump hcrc' (by simp [hzero, hm])]

end Sys2Proof.Machine
end

section
/-! SUPPORT. Tampering with one byte of a good frame (43_profile01.md R202, 44_profile04.md R232,
45_profile05.md R262). With a polynomial of constant term 1 no shift of the CRC register loses
information, so CrcRun is injective in the start value and in each of its bytes. -/

namespace Sys2Proof.Machine

/-! ## The shift register is injective -/

/-- A map linear over XOR that sends only 0 to 0 is injective. -/
theorem injective_of_xor {w : Nat} {f : BitVec w → BitVec w}
    (hf : Function.Semiconj₂ f (· ^^^ ·) (· ^^^ ·)) (hzero : ∀ c, f c = 0#w → c = 0#w) :
    Function.Injective f := fun c d h => by
  have hxor : f (c ^^^ d) = 0#w := (hf c d).trans (by simp [h])
  simpa using hzero _ hxor

theorem shiftMsb_injective {w : Nat} {poly : BitVec w} (h : poly.getLsbD 0 = true) :
    Function.Injective (shiftMsb poly) := by
  refine injective_of_xor (shiftMsb_xor poly) fun c hc => ?_
  cases hmsb : c.msb with
  | true =>
    have hbit := congrArg (·.getLsbD 0) hc
    simp [shiftMsb, hmsb, h] at hbit
  | false =>
    refine BitVec.eq_of_getLsbD_eq fun i hi => ?_
    by_cases htop : i = w - 1
    · rw [htop, ← BitVec.msb_eq_getLsbD_last, hmsb, BitVec.getLsbD_zero]
    · have hbit := congrArg (·.getLsbD (i + 1)) hc
      simpa [shiftMsb, hmsb, show i + 1 < w by omega, hi] using hbit

theorem shiftLsb_injective {w : Nat} {poly : BitVec w} (h : poly.getLsbD 0 = true) :
    Function.Injective (shiftLsb (reflect poly)) := by
  refine injective_of_xor (shiftLsb_xor _) fun c hc => ?_
  cases hlsb : c.getLsbD 0 with
  | true =>
    have hw : 0 < w := BitVec.lt_of_getLsbD h
    have htop : (reflect poly).getLsbD (w - 1) = true := (getLsbD_reflect poly hw).trans h
    have hbit := congrArg (·.getLsbD (w - 1)) hc
    simp [shiftLsb, hlsb, htop, show 1 + (w - 1) = w by omega] at hbit
  | false =>
    refine BitVec.eq_of_getLsbD_eq fun i _ => ?_
    cases i with
    | zero => rw [hlsb, BitVec.getLsbD_zero]
    | succ i =>
      have hbit := congrArg (·.getLsbD i) hc
      simpa [shiftLsb, hlsb, Nat.add_comm 1 i] using hbit

/-! ## CrcRun is injective in each argument -/

section
variable {w : Nat} {poly : BitVec w} (refl : Bool) (h : poly.getLsbD 0 = true)
include h

theorem bitStep_injective (b : Byte) : Function.Injective fun c => bitStep poly refl c b := by
  intro c d hcd
  cases refl with
  | false => simpa using (shiftMsb_injective h).iterate 8 hcd
  | true => simpa using (shiftLsb_injective h).iterate 8 hcd

theorem bitStep_byte_injective (hw : 8 ≤ w) (c : BitVec w) :
    Function.Injective (bitStep poly refl c) := by
  intro a b hab
  cases refl with
  | false =>
    have hin : a.setWidth w <<< (w - 8) = b.setWidth w <<< (w - 8) := by
      simpa using (shiftMsb_injective h).iterate 8 hab
    refine BitVec.eq_of_getLsbD_eq fun i hi => ?_
    have hbit := congrArg (·.getLsbD (w - 8 + i)) hin
    simpa [show w - 8 + i < w by omega, hi] using hbit
  | true =>
    have hin : a.setWidth w = b.setWidth w := by
      simpa using (shiftLsb_injective h).iterate 8 hab
    simpa [BitVec.setWidth_setWidth_of_le _ hw] using congrArg (BitVec.setWidth 8) hin

theorem crcRun_injective (bs : List Byte) :
    Function.Injective fun c => crcRun refl (buildTable poly refl) c bs := by
  simp only [crcRun_buildTable]
  induction bs with
  | nil => exact fun _ _ => id
  | cons b bs ih => exact ih.comp (bitStep_injective refl h b)

theorem crcRun_set_ne (hw : 8 ≤ w) (c : BitVec w) {bs : List Byte} {j : Nat} {v : Byte}
    (hj : j < bs.length) (hv : v ≠ bs[j]) :
    crcRun refl (buildTable poly refl) c (bs.set j v) ≠
      crcRun refl (buildTable poly refl) c bs := by
  induction bs generalizing c j with
  | nil => simp at hj
  | cons b bs ih =>
    cases j with
    | zero =>
      intro heq
      have hstep := crcRun_injective refl h bs heq
      rw [crcStep_buildTable, crcStep_buildTable] at hstep
      exact hv (bitStep_byte_injective refl h hw c hstep)
    | succ j => exact ih _ (by simpa using hj) hv

end

/-! ## The CRC field -/

/-- The number of bytes of the CRC field (30_encoding.md R101 to R103). -/
def crcFieldLen : Profile → Nat
  | .p01 => 1
  | .p04 => 4
  | .p05 => 2

/-- The CRC field that belongs before the bytes `body` of a frame under DataID d: CRC input is the
DataID and then every frame byte behind the field (R156, R157, R158). -/
def crcField (c : Config) (p : Profile) (d : Half) (body : List Byte) : List Byte :=
  match p with
  | .p01 => [crcRun false (T01 c) c.crc8Init (idHi d :: idLo d :: body) ^^^ 0xFF]
  | .p04 => le32 (crcRun true (T04 c) 0xFFFFFFFF (idHi d :: idLo d :: body) ^^^ 0xFFFFFFFF)
  | .p05 => le16 (crcRun true (T05 c) 0xFFFF (idHi d :: idLo d :: body))

theorem drop_eq_getD_cons {xs : List Byte} {n : Nat} (h : n < xs.length) :
    xs.drop n = xs.getD n 0 :: xs.drop (n + 1) := by
  rw [List.drop_eq_getElem_cons h, List.getD_eq_getElem _ _ h]

theorem crcOk_iff_crcField {c : Config} {p : Profile} {d : Half} {fr : List Byte}
    (h : headerLen p + 1 ≤ fr.length) :
    crcOk c p d fr ↔ fr.take (crcFieldLen p) = crcField c p d (fr.drop (crcFieldLen p)) := by
  cases p <;> simp only [headerLen] at h
  · rw [crcFieldLen, drop_eq_getD_cons (by omega)]
    rfl
  · rw [crcFieldLen, drop_eq_getD_cons (n := 4) (by omega), drop_eq_getD_cons (n := 5) (by omega)]
    rfl
  · rw [crcFieldLen, drop_eq_getD_cons (by omega)]
    rfl

theorem crcField_set_ne {c : Config} {p : Profile} (hodd : polyOdd c p) (d : Half)
    {body : List Byte} {j : Nat} {v : Byte} (hj : j < body.length) (hv : v ≠ body[j]) :
    crcField c p d (body.set j v) ≠ crcField c p d body := by
  have hj' : j + 2 < (idHi d :: idLo d :: body).length := by simpa using hj
  cases p with
  | p01 =>
    have hne := crcRun_set_ne false hodd (by decide) c.crc8Init hj' hv
    exact fun h => hne (BitVec.xor_left_inj _ |>.1 (List.singleton_inj.1 h))
  | p04 =>
    have hne := crcRun_set_ne true hodd (by decide) 0xFFFFFFFF hj' hv
    exact fun h => hne (BitVec.xor_left_inj _ |>.1 (Function.LeftInverse.injective fromLE_le32 h))
  | p05 =>
    have hne := crcRun_set_ne true hodd (by decide) 0xFFFF hj' hv
    exact fun h => hne (Function.LeftInverse.injective fromLE_le16 h)

/-- A right CRC is wrong after any one byte has changed: a byte of the field is compared itself, and
any other is a byte of the CRC input. -/
theorem not_crcOk_set {c : Config} {p : Profile} {d : Half} {fr : List Byte} {j : Nat} {v : Byte}
    (hodd : polyOdd c p) (hlen : headerLen p + 1 ≤ fr.length) (hok : crcOk c p d fr)
    (hj : j < fr.length) (hv : v ≠ fr[j]) : ¬ crcOk c p d (fr.set j v) := by
  rw [crcOk_iff_crcField hlen] at hok
  rw [crcOk_iff_crcField (by simpa using hlen)]
  by_cases hfield : j < crcFieldLen p
  · rw [List.drop_set_of_lt hfield, ← hok]
    intro h
    have hbyte : some v = some fr[j] := by simpa [hfield, hj] using congrArg (·[j]?) h
    exact hv (Option.some.inj hbyte)
  · have hle : crcFieldLen p ≤ j := Nat.not_lt.1 hfield
    rw [List.take_set_of_le hle, List.drop_set, if_neg hfield, hok]
    refine (crcField_set_ne hodd d ?_ ?_).symm
    · rw [List.length_drop]
      omega
    · simpa [hle] using hv

/-- Settles O45: the CRC is wrong after the change (`not_crcOk_set`), and CHECK says so. -/
theorem singleByteTamperingIsCaught : Obligations.SingleByteTamperingIsCaught := by
  intro i s sl fr j v hop hodd hs ha hlen hok hj hv hin
  rw [List.getD_eq_getElem _ _ hj] at hv
  have hbad := not_crcOk_set hodd hlen hok hj hv
  obtain ⟨t, st, ht, hc⟩ := exec_check_checked hop hs ha (by simpa [hin] using hlen)
  obtain rfl : st = .kWrongCrc := hc.outcome.wrongCrc (hin ▸ hbad)
  exact ⟨t, ht, hc.resp, hin ▸ hc.slots⟩

end Sys2Proof.Machine
end
